-- ==== Sys2Proof/Word.lean ====
section
/-! DEFINITION. The data the JD-832's chapters are written in: bytes and 16-bit quantities (chapter 11), and `Table`,
a fixed number of like records (256 cells, 16 sensors, 8 rows, ...).

A `Table α d` holds exactly `2 ^ d` entries as a perfect binary tree, so that Lean's kernel can read one entry of a large
table without unfolding the others. It is plain data with one representation per contents. -/

namespace Sys2Proof

/-- One byte of a bus, a payload or the settings store. -/
abbrev Byte := BitVec 8

/-- A 16-bit quantity of a payload, a view or the settings store. -/
abbrev Half := BitVec 16

/-- One character's data bits on the luminaire link: eight low bits and, in bit 8, the marker (R122). -/
abbrev LinkChar := BitVec 9

/-- Exactly `2 ^ d` records, numbered from 0. -/
inductive Table (α : Type) : Nat → Type where
  | leaf (a : α) : Table α 0
  | node {d : Nat} (lo hi : Table α d) : Table α (d + 1)
  deriving DecidableEq, Repr

namespace Table

/-- The record numbered `i`, read by its plain number. -/
def getNat {α : Type} : {d : Nat} → Table α d → Nat → α
  | _, .leaf a, _ => a
  | d + 1, .node lo hi, i => bif Nat.blt i (2 ^ d) then lo.getNat i else hi.getNat (i - 2 ^ d)

/-- The table with record `i`, named by its plain number, replaced. -/
def setNat {α : Type} : {d : Nat} → Table α d → Nat → α → Table α d
  | _, .leaf _, _, a => .leaf a
  | d + 1, .node lo hi, i, a =>
    bif Nat.blt i (2 ^ d) then .node (lo.setNat i a) hi else .node lo (hi.setNat (i - 2 ^ d) a)

/-- The table whose record `i` is `f (base + i)`. -/
def build {α : Type} (f : Nat → α) : (d : Nat) → (base : Nat) → Table α d
  | 0, base => .leaf (f base)
  | d + 1, base => .node (build f d base) (build f d (base + 2 ^ d))

/-- The record numbered `i`. -/
def get {α : Type} {d n : Nat} (t : Table α d) (i : Fin n) : α := t.getNat i.val

/-- The table with record `i` replaced. -/
def set {α : Type} {d n : Nat} (t : Table α d) (i : Fin n) (a : α) : Table α d := t.setNat i.val a

/-- The table whose record `i` is `f i`. -/
def ofFn {α : Type} {d n : Nat} [NeZero n] (f : Fin n → α) : Table α d := build (fun i => f (Fin.ofNat n i)) d 0

/-- Every record changed by `f`. -/
def map {α β : Type} (f : α → β) : {d : Nat} → Table α d → Table β d
  | _, .leaf a => .leaf (f a)
  | _, .node lo hi => .node (lo.map f) (hi.map f)

/-- The same record at every number. -/
def const {α : Type} (a : α) : (d : Nat) → Table α d
  | 0 => .leaf a
  | d + 1 => .node (const a d) (const a d)

/-- The records in order. -/
def toList {α : Type} : {d : Nat} → Table α d → List α
  | _, .leaf a => [a]
  | _, .node lo hi => lo.toList ++ hi.toList

end Table

end Sys2Proof
end

