-- ==== Sys2Proof/Syntax.lean ====
section
/-! DEFINITION. The commands and events that reach a JD-832: one constructor of `Instr` per row of
spec/opcode_table.json, in the table's order.

A request row carries the source byte and the payload bytes of the request; its code is the row's own, its length byte is
the payload's length and its check byte is the one that makes the request sound (section 9.3). The address byte came
before, in an `addressByte` command. Events that name a link, a sensor or a row carry its number. -/

namespace Sys2Proof

/-- One received 11-bit character of a sensor link (R23): its eight data bits, its parity bit, the line level at its stop bit, and
the exact time, in bit times of the link, from the end of the stop bit before it, its own poll's for the first character of a reply,
to its start bit (R28). -/
structure RxChar where
  data : Byte
  parity : Bool
  stop : Bool
  gap : Rat
  deriving DecidableEq, Repr

/-- What the polling of a sensor link meets (R26, R27, R28). -/
inductive PollEvent where
  /-- The link's poll timer expires. -/
  | expires
  /-- The link's receive line goes low: a start bit, where no character is being received. -/
  | falls
  /-- The link's receive line goes back to the high level it rests at. -/
  | rises
  deriving DecidableEq, Repr

/-- What reaches the part on the two lines of the zone bus, as whole bytes or as levels (R159), and on SHEDn (R150). -/
inductive PinEvent where
  /-- A START or repeated START and the whole address byte after it: address in bits 7..1, direction in bit 0. -/
  | address (byte : Byte)
  /-- One whole byte that the master writes after the address byte, and the clock of its acknowledge bit. -/
  | byte (value : Byte)
  /-- The levels that the parties other than this part drive on ZCL and ZDA; `true` is released, which reads high. -/
  | lines (zcl zda : Bool)
  /-- The part releases ZCL at the end of EXECUTING (R163). -/
  | released
  /-- The level at the SHEDn pin; `true` is high (R150). -/
  | shedn (high : Bool)
  deriving DecidableEq, Repr

/-- The steps of the part: events at its pins, requests of masters, and expiries of its timers. -/
inductive Instr where
  | powerOn
  | rstnLow
  | rstnRelease
  | loadComplete
  | shednAsserted
  | shednReleased
  /-- A START or repeated START and the address byte after it, or another event at the pins that no row names (logs 15, 26). -/
  | addressByte (byte : PinEvent)
  /-- The bytes of a request after its address byte, the last of them not acknowledged: the length byte when it is above
  64, else the check byte. -/
  | requestDiscarded (source code length : Byte) (payload : List Byte) (check : Byte)
  | stop
  | clockLowTimeout
  /-- The master clocks `bytes` bytes of a reply; it acknowledges each before the last, and the last when `ackLast`. -/
  | replyRead (bytes : Nat) (ackLast : Bool)
  | setTarget (source : Byte) (payload : List Byte)
  | setFixed (source : Byte) (payload : List Byte)
  | setCap (source : Byte) (payload : List Byte)
  | release (source : Byte) (payload : List Byte)
  | releaseOwn (source : Byte) (payload : List Byte)
  | releaseSlot (source : Byte) (payload : List Byte)
  | blindStep (source : Byte) (payload : List Byte)
  | readCells (source : Byte) (payload : List Byte)
  | readSections (source : Byte) (payload : List Byte)
  | readRequests (source : Byte) (payload : List Byte)
  | readStatus (source : Byte) (payload : List Byte)
  | readSensors (source : Byte) (payload : List Byte)
  | clearShortfall (source : Byte) (payload : List Byte)
  | writeCellField (source : Byte) (payload : List Byte)
  | writeRow (source : Byte) (payload : List Byte)
  | calApply (source : Byte) (payload : List Byte)
  | writeMasterSlot (source : Byte) (payload : List Byte)
  | writeBlindTable (source : Byte) (payload : List Byte)
  | writeProfile (source : Byte) (payload : List Byte)
  | writeSensor (source : Byte) (payload : List Byte)
  | writeLinks (source : Byte) (payload : List Byte)
  | writePart (source : Byte) (payload : List Byte)
  | saveSettings (source : Byte) (payload : List Byte)
  | saveComplete
  | restart (source : Byte) (payload : List Byte)
  | night (source : Byte) (payload : List Byte)
  | day (source : Byte) (payload : List Byte)
  | shed (source : Byte) (payload : List Byte)
  | shedClear (source : Byte) (payload : List Byte)
  /-- A link's 50 ms poll timer expires, or the receive line that an expiry tests changes its level (log 24). -/
  | pollTimer (link : Fin 4) (event : PollEvent)
  /-- The third character of a reply has been received on a link. -/
  | sensorReply (link : Fin 4) (valueHigh valueLow check : RxChar)
  /-- A limit of R28 runs out for the poll in flight on a link. -/
  | noReply (link : Fin 4)
  /-- The limit that R34 sets on a sensor's time since its last valid sample is reached. -/
  | healthTimeout (sensor : Fin 16)
  | dleOneSecondTimer
  | rluOneSecondTimer
  | freezeTimerExpiry (row : Fin 8)
  | fadeEvent
  | initGroupComplete
  | burstComplete
  | allTouchComplete
  | shedFrameComplete
  | cutFrameComplete
  /-- A configured row's age reaches half the refresh interval. -/
  | rowDue (row : Fin 8)
  | reInitTimer
  /-- A request with a sound check byte and the request code `code`. -/
  | requestWithUnknownCode (code source : Byte) (payload : List Byte)
  deriving DecidableEq, Repr

end Sys2Proof
end

