-- ==== Sys2Proof/WellFormed.lean ====
section
/-! DEFINITION. Which commands are well formed as terms: a request's payload is at most 64 bytes long (section 9.3), a
discarded request's bytes run to the byte that is not acknowledged, a reply read clocks at least one byte, no time between
two characters is negative, and an unknown code is not one of the catalogue's (section 11.2). `exec` answers on ill-formed
commands too. -/

namespace Sys2Proof

/-- The request codes of the catalogue of section 11.2. -/
def catalogueCodes : List Byte :=
  [0x01, 0x02, 0x03, 0x04, 0x05, 0x06, 0x10, 0x20, 0x21, 0x22, 0x23, 0x24, 0x28, 0x30, 0x31, 0x32, 0x33, 0x34, 0x35,
   0x36, 0x37, 0x38, 0x39, 0x3A, 0x40, 0x41, 0x42, 0x43]

namespace Instr

/-- The payload of a request row; no other row has one. -/
def payload? : Instr → Option (List Byte)
  | setTarget _ p | setFixed _ p | setCap _ p | release _ p | releaseOwn _ p | releaseSlot _ p | blindStep _ p
  | readCells _ p | readSections _ p | readRequests _ p | readStatus _ p | readSensors _ p | clearShortfall _ p
  | writeCellField _ p | writeRow _ p | calApply _ p | writeMasterSlot _ p | writeBlindTable _ p | writeProfile _ p
  | writeSensor _ p | writeLinks _ p | writePart _ p | saveSettings _ p | restart _ p | night _ p | day _ p | shed _ p
  | shedClear _ p | requestWithUnknownCode _ _ p => some p
  | powerOn | rstnLow | rstnRelease | loadComplete | shednAsserted | shednReleased | addressByte _
  | requestDiscarded _ _ _ _ _ | stop | clockLowTimeout | replyRead _ _ | saveComplete | pollTimer _ _
  | sensorReply _ _ _ _ | noReply _ | healthTimeout _ | dleOneSecondTimer | rluOneSecondTimer | freezeTimerExpiry _
  | fadeEvent | initGroupComplete | burstComplete | allTouchComplete | shedFrameComplete | cutFrameComplete | rowDue _
  | reInitTimer => none

/-- The checks on a command's own operands. -/
def wellFormed : Instr → Bool
  | setTarget _ p | setFixed _ p | setCap _ p | release _ p | releaseOwn _ p | releaseSlot _ p | blindStep _ p
  | readCells _ p | readSections _ p | readRequests _ p | readStatus _ p | readSensors _ p | clearShortfall _ p
  | writeCellField _ p | writeRow _ p | calApply _ p | writeMasterSlot _ p | writeBlindTable _ p | writeProfile _ p
  | writeSensor _ p | writeLinks _ p | writePart _ p | saveSettings _ p | restart _ p | night _ p | day _ p | shed _ p
  | shedClear _ p => decide (p.length ≤ 64)
  | requestWithUnknownCode code _ p => decide (p.length ≤ 64) && !catalogueCodes.contains code
  | requestDiscarded _ _ length p _ => decide (64 < length.toNat) || decide (p.length = length.toNat)
  | replyRead bytes _ => decide (0 < bytes)
  | sensorReply _ c1 c2 c3 => decide (0 ≤ c1.gap) && decide (0 ≤ c2.gap) && decide (0 ≤ c3.gap)
  | powerOn | rstnLow | rstnRelease | loadComplete | shednAsserted | shednReleased | addressByte _ | stop
  | clockLowTimeout | saveComplete | pollTimer _ _ | noReply _ | healthTimeout _
  | dleOneSecondTimer | rluOneSecondTimer | freezeTimerExpiry _ | fadeEvent | initGroupComplete | burstComplete
  | allTouchComplete | shedFrameComplete | cutFrameComplete | rowDue _ | reInitTimer => true

end Instr

end Sys2Proof
end

