-- ==== Sys2Proof/Decode.lean ====
section
/-! DEFINITION. The command a word spells by the bits of spec/opcode_table.json. The table gives no row any bits (every
row's "fields" is empty and none has a "fixed" pattern), so no word spells a command: commands are events and bus
requests, given to the model as terms. The request codes of section 11.2 are read in Machine/Catalogue.lean. -/

namespace Sys2Proof

/-- The command that the word `w` of `nbits` bits spells: none, since the table gives its rows no bits. -/
def decodeTableWord (_nbits _w : Nat) : Option Instr := none

end Sys2Proof
end

