-- ==== Sys2Proof/Config.lean ====
section
/-! DEFINITION. What one JD-832 fixes for all of its life: the counts of chapter "Geometry and numbering", as names. The
spec leaves no value open that an implementation chooses and a rule then reads, so no constant here is opaque. -/

namespace Sys2Proof.Config

/-- The request list never holds more entries (R61). -/
def listCapacity : Nat := 48

/-- The longest payload and the longest reply data of the zone bus (section 9.3). -/
def maxPayload : Nat := 64

/-- The floor call: the zone-bus broadcast address, as an address byte with direction 0. -/
def floorCall : Byte := 0x00

end Sys2Proof.Config
end

