-- ==== Sys2Proof/Machine/Records.lean ====
section
/-! DEFINITION. The records the ten blocks of the JD-832 hold, as chapters 1 to 9 name them. Quantities in lux, per-mille,
seconds and milliseconds are natural numbers; times that run between two whole seconds are counted in ticks of 8 µs (one
bit time of the luminaire link, R122). "Absent" is `none`. -/

namespace Sys2Proof.Machine

/-! ## Cell Table (chapter 1) -/

/-- The cell calibration record (R2). -/
structure Calibration where
  present : Bool
  /-- Efficacy K, lux at full output, 1..4000. -/
  efficacy : Nat
  /-- Floor Lmin, per-mille, 0..1000. -/
  floor : Nat
  /-- Base target Tbase, lux, 0..2000. -/
  target : Nat
  profile : Fin 8
  /-- Membership of groups 0..7: group g is bit g. -/
  classByte : Byte
  /-- The façade section the cell looks to. -/
  facade : Fin 16
  deriving DecidableEq, Repr

/-- A row's freeze state (R6), with the ticks left on its freeze timer while FROZEN. -/
inductive Freeze where
  | live
  | frozen (left : Nat)
  deriving DecidableEq, Repr

/-- The row record (R6). -/
structure RowRecord where
  /-- Daylight factor DF, per ten-thousand, 0..10,000. -/
  daylightFactor : Nat
  /-- Shed level S, per-mille, 0..1000. -/
  shedLevel : Nat
  freeze : Freeze
  deriving DecidableEq, Repr

/-- The Cell Table: calibration, row records and held base levels (R2, R6). -/
structure CellTable where
  cells : Table Calibration 8
  rows : Table RowRecord 3
  held : Table (Option Nat) 8
  deriving DecidableEq, Repr

/-! ## Sensor Link Unit (chapter 2) -/

/-- Which link clock a link divides (R22). -/
inductive ClockSelect where
  | lc0
  | lc1
  deriving DecidableEq, Repr

/-- One link's clock select and divisor q (R22). -/
structure LinkSetting where
  select : ClockSelect
  divisor : Nat
  deriving DecidableEq, Repr

/-- The link settings (R22). -/
structure LinkSettings where
  n0 : Nat
  n1 : Nat
  links : Table LinkSetting 2
  deriving DecidableEq, Repr

/-- The health states of a sensor (R31, section 2.5). -/
inductive Health where
  | absent
  | waiting
  | fresh
  | stale
  | failed
  | recovering
  deriving DecidableEq, Repr

/-- The kinds of error outcome (R31). -/
inductive SensorError where
  | parity
  | framing
  | check
  | noReply
  | sensorFault
  deriving DecidableEq, Repr

/-- A valid sample (R30, R31). -/
structure Sample where
  count : Nat
  range : Nat
  lux : Nat
  deriving DecidableEq, Repr

/-- The sensor record (R31). -/
structure Sensor where
  present : Bool
  health : Health
  /-- Consecutive error count, 0..8. -/
  errors : Nat
  lastError : Option SensorError
  sample : Option Sample
  /-- Time since the last valid sample, in ticks. -/
  since : Nat
  /-- Recovery run count, 0..4. -/
  run : Nat
  saturated : Bool
  deriving DecidableEq, Repr

/-- A poll in flight (R28). -/
structure Poll where
  /-- The position polled. -/
  position : Fin 4
  /-- The ticks since the poll's start bit. -/
  elapsed : Nat
  /-- The value of `elapsed` at which the first start bit of the reply came, once it has. -/
  started : Option Nat
  deriving DecidableEq, Repr

/-- A link's receive line as the SLU follows it for the busy test of R27. -/
structure RxLine where
  /-- The ticks since the start bit of the last character begun on the line, if one has begun since the last reply or reset. -/
  character : Option Nat
  /-- The ticks for which the line has been low, while it is low. -/
  low : Option Nat
  deriving DecidableEq, Repr

/-- A receive line at the high level it rests at, with no character on it (R23). -/
def RxLine.resting : RxLine := { character := none, low := none }

/-- The Sensor Link Unit. -/
structure SensorLinks where
  settings : LinkSettings
  sensors : Table Sensor 4
  /-- Polling is enabled (R26). -/
  polling : Bool
  /-- Each link's poll timer: the ticks since its last expiry while it runs (R26). -/
  timers : Table (Option Nat) 2
  /-- The position last polled on each link since it started running or polling was enabled (R26). -/
  lastPolled : Table (Option (Fin 4)) 2
  inFlight : Table (Option Poll) 2
  /-- Each link's receive line (R27). -/
  lines : Table RxLine 2
  deriving DecidableEq, Repr

/-! ## Daylight Estimator (chapter 3) -/

/-- The section record (R41). A section is seeded exactly while `filtered` is present. -/
structure Section where
  filtered : Option Nat
  /-- Filter shift k, 0..7. -/
  shift : Nat
  /-- Blind step, or `none` for UNKNOWN. -/
  step : Option (Fin 16)
  /-- Remaining hold in seconds. -/
  hold : Option Nat
  deriving DecidableEq, Repr

/-- The Daylight Estimator (R41). -/
structure Daylight where
  sections : Table Section 4
  /-- The blind attenuation table BA, entries 0..256 (R55). -/
  attenuation : Table Nat 4
  fallback : Fin 16
  /-- The one-second timer: the ticks since its last expiry while it runs (R42). -/
  timer : Option Nat
  deriving DecidableEq, Repr

/-- Where a section's effective façade value comes from (R48). -/
inductive Source where
  | own
  | lower
  | upper
  | dark
  deriving DecidableEq, Repr

/-! ## Request List Unit (chapter 4) -/

/-- A selector as the master wrote it (R8). -/
inductive Selector where
  | all
  | mask (groups : Byte)
  | rect (row0 row1 bay0 bay1 : Nat)
  | cell (number : Fin 256)
  deriving DecidableEq, Repr

/-- What an entry asks for (R60). -/
inductive Kind where
  | target
  | fixed
  | cap
  deriving DecidableEq, Repr

/-- One entry of the request list (R60). -/
structure Entry where
  slot : Fin 8
  tag : Fin 16
  kind : Kind
  value : Nat
  selector : Selector
  priority : Fin 8
  /-- Remaining hold in seconds; absent for an indefinite entry. -/
  hold : Option Nat
  coverage : Nat
  deriving DecidableEq, Repr

/-- What fixes a cell's base level (R78). -/
inductive Winner where
  | base
  | target (slot : Fin 8) (tag : Fin 16) (lux : Nat)
  | fixed (slot : Fin 8) (tag : Fin 16) (level : Nat)
  deriving DecidableEq, Repr

/-- A cell's resolved record (R78). -/
structure Resolved where
  winner : Winner
  cap : Option Nat
  deriving DecidableEq, Repr

/-- The Request List Unit: the list, oldest entry first (R62), the resolved records and the one-second timer (R63). -/
structure Requests where
  list : List Entry
  resolved : Table Resolved 8
  timer : Option Nat
  deriving DecidableEq, Repr

/-! ## Level Arithmetic Unit (chapter 5) -/

/-- The quantiser mode (R85). -/
inductive QuantMode where
  | chop
  | round
  | dither
  deriving DecidableEq, Repr

/-- The LAU record of a cell (R85). -/
structure LauCell where
  residue : Nat
  saturated : Bool
  shortfall : Bool
  floored : Bool
  capped : Bool
  shedLimited : Bool
  lastBase : Option Nat
  lastGoal : Option Nat
  lastDaylight : Option Nat
  deriving DecidableEq, Repr

/-- The Level Arithmetic Unit. -/
structure Levels where
  cells : Table LauCell 8
  mode : QuantMode
  deriving DecidableEq, Repr

/-! ## Fade Unit (chapter 6) -/

/-- A fade profile's up and down steps, per-mille per fade event, 1..1000 (R107). -/
structure Profile where
  up : Nat
  down : Nat
  deriving DecidableEq, Repr

/-- The Fade Unit: fade levels, profiles and the fade timer (the ticks since its last expiry while it runs, R109). -/
structure Fades where
  levels : Table (Option Nat) 8
  profiles : Table Profile 3
  timer : Option Nat
  deriving DecidableEq, Repr

/-! ## Luminaire Link Controller (chapter 7) -/

/-- The link states (R121). -/
inductive LinkState where
  | off
  | init
  | run
  deriving DecidableEq, Repr

/-- One entry of a staged burst (R126): the level sent for the bay, and whether it is staged for the bay's cell. -/
structure StagedBay where
  level : Nat
  staged : Bool
  deriving DecidableEq, Repr

/-- A frame of the luminaire link (R125 to R128), with what it staged. -/
inductive Frame where
  | initGroup
  | burst (row : Fin 8) (firstBay : Nat) (bays : List StagedBay)
  | allTouch
  | shed (levels : Table Nat 3)
  deriving DecidableEq, Repr

/-- The frame in flight: the ticks since its first start bit, the tick at which it completes, and whether it is cut. -/
structure Flight where
  frame : Frame
  elapsed : Nat
  ends : Nat
  cut : Bool
  deriving DecidableEq, Repr

/-- The Luminaire Link Controller (R124). Row ages are counted in ticks; the intervals are in milliseconds. -/
structure LuminaireLink where
  state : LinkState
  taken : Table (Option Nat) 8
  ages : Table (Option Nat) 3
  /-- The urgent row queue, oldest posting first (R131). -/
  queue : List (Fin 8)
  flight : Option Flight
  pendingShed : Bool
  pendingInit : Bool
  /-- The refresh interval R in ms. -/
  interval : Nat
  pendingInterval : Option Nat
  /-- The re-init timer: the ticks since its last expiry while it runs (R139). -/
  reInit : Option Nat
  deriving DecidableEq, Repr

/-! ## Floor State Controller (chapter 8) -/

/-- The part states (R143). -/
inductive PartState where
  | starting
  | run
  | standby
  deriving DecidableEq, Repr

/-- The Floor State Controller (R143), with the RSTn and SHEDn pins it obeys (R144, R150). -/
structure Floor where
  part : PartState
  latch : Bool
  /-- The SHEDn line as qualified: `true` for asserted (R150). -/
  lineAsserted : Bool
  restartPending : Bool
  /-- RSTn is held low (R144). -/
  resetHeld : Bool
  /-- The level at the SHEDn pin; `true` is high (R150). -/
  shedn : Bool
  /-- The ticks for which SHEDn has stood at that level without a break since STARTING began, up to 1 ms (R150). -/
  steady : Nat
  deriving DecidableEq, Repr

/-! ## Settings Store (chapter 8) -/

/-- A stored cell calibration record, at the widths of R147. -/
structure StoredCell where
  present : Byte
  efficacy : Half
  floor : Half
  target : Half
  profile : Byte
  classByte : Byte
  facade : Byte
  deriving DecidableEq, Repr

/-- A stored row record (R147). -/
structure StoredRow where
  daylightFactor : Half
  shedLevel : Half
  deriving DecidableEq, Repr

/-- A stored master slot (R147). -/
structure StoredSlot where
  address : Byte
  role : Byte
  priority : Byte
  deriving DecidableEq, Repr

/-- A stored fade profile (R147). -/
structure StoredProfile where
  up : Half
  down : Half
  deriving DecidableEq, Repr

/-- A stored sensor's present flag and filter shift (R147). -/
structure StoredSensor where
  present : Byte
  shift : Byte
  deriving DecidableEq, Repr

/-- A stored link's clock select and divisor (R147). -/
structure StoredLink where
  select : Byte
  divisor : Byte
  deriving DecidableEq, Repr

/-- The 2727 setting bytes of R147, by name. -/
structure Settings where
  cells : Table StoredCell 8
  rows : Table StoredRow 3
  slots : Table StoredSlot 3
  own : Byte
  attenuation : Table Half 4
  fallback : Byte
  profiles : Table StoredProfile 3
  sensors : Table StoredSensor 4
  n0 : Byte
  n1 : Byte
  links : Table StoredLink 2
  mode : Byte
  interval : Half
  deriving DecidableEq, Repr

/-- The non-volatile store (R147): the settings and the check word, `none` while a save has made it invalid (R155). -/
structure Store where
  settings : Settings
  check : Option Half
  deriving DecidableEq, Repr

/-- A save under way (R155): the snapshot and the ticks since the SAVE SETTINGS was taken. -/
structure Saving where
  snapshot : Settings
  elapsed : Nat
  deriving DecidableEq, Repr

/-- The Settings Store. The save state is SAVING exactly while `saving` is present. `loading` counts the ticks of the
settings load of STARTING while it is under way (R145). -/
structure SettingsStore where
  store : Store
  saving : Option Saving
  unconfigured : Bool
  loading : Option Nat
  deriving DecidableEq, Repr

/-! ## Zone Bus Interface (chapter 9) -/

/-- The role of a master slot (R168). -/
inductive Role where
  | empty
  | commissioning
  | supervisor
  | occupant
  | blind
  deriving DecidableEq, Repr

/-- A master slot (R168); an EMPTY slot has address 00h and priority 0 (R169). -/
structure MasterSlot where
  role : Role
  address : Byte
  priority : Fin 8
  deriving DecidableEq, Repr

/-- The statuses of section 9.7. -/
inductive Status where
  | done
  | doneClamped
  | doneNothing
  | refusedSource
  | refusedClass
  | refusedFormat
  | refusedSelector
  | refusedFull
  | refusedBusy
  | refusedState
  | noRequest
  deriving DecidableEq, Repr

/-- The transfer states (R160). -/
inductive Transfer where
  | idle
  | receiving
  | executing
  | replyReady
  | replying
  | notAddressed
  deriving DecidableEq, Repr

/-- A reply (R160): status, data of the reply length, and check. -/
structure Reply where
  status : Status
  data : List Byte
  check : Byte
  deriving DecidableEq, Repr

/-- The two lines of the zone bus as the ZBI follows them (R159, R163, R166). -/
structure BusLines where
  /-- The level that all other parties together drive on ZCL; `true` is released. -/
  zcl : Bool
  /-- The level that all other parties together drive on ZDA. -/
  zda : Bool
  /-- A START has come, and the STOP that ends its transfer has not. -/
  inTransfer : Bool
  /-- The byte under way is the address byte after a START or repeated START. -/
  addressing : Bool
  /-- The bits of the byte under way sampled so far, its acknowledge bit the ninth. -/
  bits : List Bool
  /-- The part pulls ZDA low, for an acknowledge bit or for a bit of a reply. -/
  pullsZda : Bool
  /-- The ticks for which the part has held ZCL low in EXECUTING, while it does. -/
  hold : Option Nat
  /-- The ticks for which ZCL has been low while the part is not holding it, while it is. -/
  low : Option Nat
  deriving DecidableEq, Repr

/-- Both lines released by every party, and no byte under way (R159). -/
def BusLines.resting : BusLines :=
  { zcl := true, zda := true, inTransfer := false, addressing := false, bits := [], pullsZda := false, hold := none, low := none }

/-- The Zone Bus Interface (R160), and what it drives on ZDA: the acknowledge bit of the last byte written to the bus, and
the bytes sent since REPLYING was last entered. -/
structure ZoneBus where
  transfer : Transfer
  /-- The address byte of the current request. -/
  address : Option Byte
  /-- The bytes of a request received so far, from its address byte. -/
  request : Option (List Byte)
  reply : Option Reply
  slots : Table MasterSlot 3
  own : Byte
  pendingOwn : Option Byte
  /-- The last byte of an address or a request was acknowledged. -/
  acked : Bool
  /-- The bytes read from the part since REPLYING was last entered. -/
  sent : List Byte
  /-- The master did not acknowledge a byte of this reply, so nothing more is sent (R164). -/
  stopped : Bool
  /-- The two lines (R159). -/
  lines : BusLines
  deriving DecidableEq, Repr

end Sys2Proof.Machine
end

