-- ==== Sys2Proof/Machine/Factory.lean ====
section
/-! DEFINITION. The settings of the part as live values, their factory defaults (R2, R6, R22, R31, R41, R42, R54, R85,
R107, R124, R146), and the reset values of the records that hold no setting. -/

namespace Sys2Proof.Machine

/-- All the settings of R147 as the blocks hold them. -/
structure Live where
  cells : Table Calibration 8
  /-- Daylight factor and shed level of each row. -/
  rows : Table (Nat × Nat) 3
  slots : Table MasterSlot 3
  own : Byte
  attenuation : Table Nat 4
  fallback : Fin 16
  profiles : Table Profile 3
  /-- Present flag and filter shift of each sensor. -/
  sensors : Table (Bool × Nat) 4
  links : LinkSettings
  mode : QuantMode
  interval : Nat
  deriving DecidableEq, Repr

/-- The factory calibration of a cell (R2): its section is its bay divided by 2. -/
def factoryCell (c : Fin 256) : Calibration :=
  { present := true, efficacy := 500, floor := 100, target := 500, profile := 0, classByte := 0x01,
    facade := Fin.ofNat 16 (c.val % 32 / 2) }

/-- The factory daylight factor of a row (R6). -/
def factoryDaylightFactor (r : Fin 8) : Nat := [800, 400, 200, 100, 50, 25, 12, 6].getD r.val 0

/-- The factory fade profile (R107). -/
def factoryProfile (p : Fin 8) : Profile :=
  match p.val with
  | 0 => ⟨40, 4⟩
  | 1 => ⟨20, 2⟩
  | 2 => ⟨100, 10⟩
  | 3 => ⟨10, 1⟩
  | 4 => ⟨200, 20⟩
  | 5 => ⟨50, 50⟩
  | 6 => ⟨1000, 10⟩
  | _ => ⟨1000, 1000⟩

/-- An EMPTY master slot (R169). -/
def MasterSlot.vacant : MasterSlot := { role := .empty, address := 0x00, priority := 0 }

/-- The factory master table (R146): slot 0 at 7Eh, COMMISSIONING, priority 7; the others EMPTY. -/
def factorySlot (n : Fin 8) : MasterSlot :=
  if n = 0 then { role := .commissioning, address := 0x7E, priority := 7 } else .vacant

/-- The factory link settings (R22). -/
def factoryLinks : LinkSettings := { n0 := 4, n1 := 6, links := .const ⟨.lc0, 32⟩ 2 }

/-- The factory defaults of every setting, which a bad store gives (R146). -/
def Live.factory : Live where
  cells := .ofFn factoryCell
  rows := .ofFn fun r : Fin 8 => (factoryDaylightFactor r, 500)
  slots := .ofFn factorySlot
  own := 0x40
  attenuation := .ofFn fun p : Fin 16 => 256 - 16 * p.val
  fallback := 15
  profiles := .ofFn factoryProfile
  sensors := .const (true, 3) 4
  links := factoryLinks
  mode := .round
  interval := 500

/-- A sensor record cleared on entry to WAITING or ABSENT at a change of presence, and at a full reset (R31, R37). -/
def Sensor.cleared (present : Bool) : Sensor :=
  { present, health := if present then .waiting else .absent, errors := 0, lastError := none, sample := none, since := 0,
    run := 0, saturated := false }

/-- A section right after a full reset, with its filter shift (R42). -/
def Section.unseeded (shift : Nat) : Section := { filtered := none, shift, step := none, hold := none }

/-- A cleared LAU record (R86, R87). -/
def LauCell.cleared : LauCell :=
  { residue := 0, saturated := false, shortfall := false, floored := false, capped := false, shedLimited := false,
    lastBase := none, lastGoal := none, lastDaylight := none }

/-- BASE with no cap (R63). -/
def Resolved.base : Resolved := { winner := .base, cap := none }

end Sys2Proof.Machine
end

