-- ==== Sys2Proof/Machine/State.lean ====
section
/-! DEFINITION. The state of the JD-832: one field per block of "How the part is built", and the queue of commands that
wait to be taken. `State.reset` is the part right after power-on: every block at its reset values and the settings load of
STARTING just begun (R144, R145). -/

namespace Sys2Proof.Machine

/-- The reasons to stop with a fault. No command of the JD-832 faults, so there is none: every rule of the spec gives its
event an effect, or none at all. Safe: nothing is raised. -/
inductive Fault : Type
  deriving DecidableEq, Repr

/-- The reasons to give a command no meaning. -/
inductive Refusal where
  /-- Raised by an arm of `exec` whose row has no meaning yet; no arm is left that raises it. Safe: the model stops. -/
  | notModelled (mnemonic : String)
  deriving DecidableEq, Repr

/-- Everything the spec gives the part, block by block, and the commands waiting, first in first out. -/
structure State where
  ct : CellTable
  slu : SensorLinks
  dle : Daylight
  rlu : Requests
  lau : Levels
  fdu : Fades
  llc : LuminaireLink
  fsc : Floor
  sst : SettingsStore
  zbi : ZoneBus
  pending : List Instr
  deriving DecidableEq, Repr

namespace State

/-- The part with a new Cell Table. -/
def setCt (s : State) (x : CellTable) : State := { s with ct := x }
/-- The part with a new Sensor Link Unit. -/
def setSlu (s : State) (x : SensorLinks) : State := { s with slu := x }
/-- The part with a new Daylight Estimator. -/
def setDle (s : State) (x : Daylight) : State := { s with dle := x }
/-- The part with a new Request List Unit. -/
def setRlu (s : State) (x : Requests) : State := { s with rlu := x }
/-- The part with a new Level Arithmetic Unit. -/
def setLau (s : State) (x : Levels) : State := { s with lau := x }
/-- The part with a new Fade Unit. -/
def setFdu (s : State) (x : Fades) : State := { s with fdu := x }
/-- The part with a new Luminaire Link Controller. -/
def setLlc (s : State) (x : LuminaireLink) : State := { s with llc := x }
/-- The part with a new Floor State Controller. -/
def setFsc (s : State) (x : Floor) : State := { s with fsc := x }
/-- The part with a new Settings Store. -/
def setSst (s : State) (x : SettingsStore) : State := { s with sst := x }
/-- The part with a new Zone Bus Interface. -/
def setZbi (s : State) (x : ZoneBus) : State := { s with zbi := x }
/-- The part with a new queue of waiting commands. -/
def setPending (s : State) (x : List Instr) : State := { s with pending := x }

end State

/-- The store of a part that has never saved: all zero, the check word too, which R147 calls bad. DESIGN CHOICE (log 1). -/
def Store.blank : Store where
  settings :=
    { cells := .const ⟨0, 0, 0, 0, 0, 0, 0⟩ 8, rows := .const ⟨0, 0⟩ 3, slots := .const ⟨0, 0, 0⟩ 3, own := 0,
      attenuation := .const 0 4, fallback := 0, profiles := .const ⟨0, 0⟩ 3, sensors := .const ⟨0, 0⟩ 4, n0 := 0, n1 := 0,
      links := .const ⟨0, 0⟩ 2, mode := 0, interval := 0 }
  check := some 0

/-- The part right after a full reset, STARTING begun (R7, R31, R42, R63, R86, R106, R124, R143, R155, R160). Settings
stand at their factory defaults until the load completes; nothing reads them before: DESIGN CHOICE (log 2). SHEDn and
the lines of the zone bus stand high: DESIGN CHOICE (logs 26, 10). -/
def State.reset : State where
  ct :=
    { cells := Live.factory.cells,
      rows := .ofFn fun r : Fin 8 => ⟨factoryDaylightFactor r, 500, .live⟩,
      held := .const none 8 }
  slu :=
    { settings := factoryLinks, sensors := .const (.cleared true) 4, polling := false, timers := .const none 2,
      lastPolled := .const none 2, inFlight := .const none 2, lines := .const .resting 2 }
  dle :=
    { sections := .const (.unseeded 3) 4, attenuation := Live.factory.attenuation, fallback := 15, timer := none }
  rlu := { list := [], resolved := .const .base 8, timer := none }
  lau := { cells := .const .cleared 8, mode := .round }
  fdu := { levels := .const none 8, profiles := Live.factory.profiles, timer := none }
  llc :=
    { state := .off, taken := .const none 8, ages := .const none 3, queue := [], flight := none, pendingShed := false,
      pendingInit := false, interval := 500, pendingInterval := none, reInit := none }
  fsc := { part := .starting, latch := false, lineAsserted := false, restartPending := false, resetHeld := false, shedn := true,
           steady := 0 }
  sst := { store := .blank, saving := none, unconfigured := false, loading := some 0 }
  zbi :=
    { transfer := .idle, address := none, request := none, reply := none, slots := Live.factory.slots, own := 0x40,
      pendingOwn := none, acked := false, sent := [], stopped := false, lines := .resting }
  pending := []

end Sys2Proof.Machine
end

