-- ==== Sys2Proof/Machine/Estimator.lean ====
section
/-! DEFINITION. The Daylight Estimator's operations: the three hand-offs (R43 to R45), the effective façade value (R48) and
the attenuation of a section (R54, R55). -/

namespace Sys2Proof.Machine

/-- What the SLU hands the DLE for a section (R35). -/
inductive HandOff where
  | seed (lux : Nat)
  | filterStep (lux : Nat)
  | unseed
  | nothing
  deriving DecidableEq, Repr

/-- The signed step of the filter: d / 2^k truncated toward zero, but never 0 for d ≠ 0 (R44, steps 1 to 3). -/
def filterDelta (k : Nat) (d : Int) : Int :=
  let step := d.tdiv (2 ^ k)
  if d ≠ 0 ∧ step = 0 then d.sign else step

/-- A section after a hand-off (R43, R44, R45). -/
def Section.take (c : Section) : HandOff → Section
  | .seed lux => { c with filtered := some lux }
  | .filterStep lux =>
    match c.filtered with
    | none => { c with filtered := some lux }
    | some f => { c with filtered := some ((f : Int) + filterDelta c.shift ((lux : Int) - f)).toNat }
  | .unseed => { c with filtered := none }
  | .nothing => c

/-- A section is seeded exactly while its filtered value is present (R41). -/
def Section.seeded (c : Section) : Bool := c.filtered.isSome

/-- The effective blind step of a section (R54). -/
def Section.effectiveStep (fallback : Fin 16) (c : Section) : Fin 16 := c.step.getD fallback

/-- One expiry of the DLE's one-second timer for a section: a present hold decreases by 1, and at 0 the step becomes
UNKNOWN and the hold absent (R53). -/
def Section.countDown (c : Section) : Section :=
  match c.hold with
  | none => c
  | some h => if h ≤ 1 then { c with step := none, hold := none } else { c with hold := some (h - 1) }

namespace State

/-- The DLE after a hand-off for section `i`. -/
def handOff (s : State) (i : Fin 16) (h : HandOff) : State :=
  s.setDle { s.dle with sections := s.dle.sections.set i ((s.dle.sections.get i).take h) }

/-- A sensor is usable when its health state is FRESH or STALE (R48). -/
def usable (s : State) (i : Fin 16) : Bool :=
  match (s.slu.sensors.get i).health with
  | .fresh | .stale => true
  | .absent | .waiting | .failed | .recovering => false

/-- The filtered value a section lends or uses; 0 where it has none. -/
def filteredOf (s : State) (i : Fin 16) : Nat := ((s.dle.sections.get i).filtered).getD 0

/-- The effective façade value of a section and its source: the first line of R48's table that applies. -/
def effective (s : State) (i : Fin 16) : Nat × Source :=
  if s.usable i then (s.filteredOf i, .own)
  else if h : 0 < i.val ∧ s.usable ⟨i.val - 1, by omega⟩ = true then (s.filteredOf ⟨i.val - 1, by omega⟩, .lower)
  else if h : i.val + 1 < 16 then
    if s.usable ⟨i.val + 1, h⟩ then (s.filteredOf ⟨i.val + 1, h⟩, .upper) else (0, .dark)
  else (0, .dark)

/-- The attenuation of a section: the table entry of its effective blind step (R55). -/
def attenuationOf (s : State) (i : Fin 16) : Nat :=
  s.dle.attenuation.get ((s.dle.sections.get i).effectiveStep s.dle.fallback)

end State

end Sys2Proof.Machine
end

