-- ==== Sys2Proof/Machine/Formats.lean ====
section
/-! DEFINITION. Chapter 11: byte order, the additive checks (R176), the codes of statuses and views, and the characters of
the luminaire link and of the sensor links (R175). -/

namespace Sys2Proof.Machine

/-! ## Bytes and 16-bit values (chapter 11, opening) -/

/-- Byte `i` of a payload as a number; 0 past its end. -/
def byteAt (p : List Byte) (i : Nat) : Nat := (p.getD i 0).toNat

/-- The 16-bit value at bytes `i` and `i + 1`, most significant byte first. -/
def halfAt (p : List Byte) (i : Nat) : Nat := byteAt p i * 256 + byteAt p (i + 1)

/-- The two bytes of a 16-bit value, most significant first. -/
def halfBytes (n : Nat) : List Byte := [BitVec.ofNat 8 (n / 256), BitVec.ofNat 8 n]

/-- An optional 16-bit value of a view: FFFFh for absent (R175). -/
def optHalfBytes : Option Nat → List Byte
  | none => [0xFF, 0xFF]
  | some n => halfBytes n

/-- The sum of bytes modulo 256. -/
def byteSum (l : List Byte) : Byte := l.foldl (· + ·) 0

/-- The check byte that makes a sum 0 modulo 256 (R176). -/
def checkByte (l : List Byte) : Byte := -(byteSum l)

/-! ## Zone bus (section 11.1) -/

/-- The status codes of section 11.1. -/
def Status.code : Status → Byte
  | .done => 0x00
  | .doneClamped => 0x01
  | .doneNothing => 0x02
  | .refusedSource => 0x10
  | .refusedClass => 0x11
  | .refusedFormat => 0x12
  | .refusedSelector => 0x13
  | .refusedFull => 0x14
  | .refusedBusy => 0x15
  | .refusedState => 0x16
  | .noRequest => 0x20

/-- Whether a status is one of the refusals (section 9.7). -/
def Status.refuses : Status → Bool
  | .refusedSource | .refusedClass | .refusedFormat | .refusedSelector | .refusedFull | .refusedBusy | .refusedState =>
    true
  | .done | .doneClamped | .doneNothing | .noRequest => false

/-- The address byte of a 7-bit address, written (section 11.1). -/
def writeAddress (a : Byte) : Byte := a <<< 1

/-- The address byte of a 7-bit address, read (section 11.1). -/
def readAddress (a : Byte) : Byte := (a <<< 1) ||| 1

/-- A 7-bit address a master or the part may have: 08h..77h (R168, R170). -/
def addressOk (a : Byte) : Bool := decide (0x08 ≤ a.toNat) && decide (a.toNat ≤ 0x77)

/-- The bytes of a sound request from its source byte through its check byte, after the address byte (section 9.3). -/
def requestBytes (address source code : Byte) (payload : List Byte) : List Byte :=
  let body := source :: code :: BitVec.ofNat 8 payload.length :: payload
  body ++ [checkByte (address :: body)]

/-- The reply the part composes: the check makes read address byte, status, length, data and check sum to 0 (section 9.3). -/
def composeReply (own : Byte) (status : Status) (data : List Byte) : Reply :=
  { status, data,
    check := checkByte (readAddress own :: status.code :: BitVec.ofNat 8 data.length :: data) }

/-- The bytes of a reply in the order they are sent: status, length, data, check (R164). -/
def Reply.bytes (r : Reply) : List Byte := r.status.code :: BitVec.ofNat 8 r.data.length :: (r.data ++ [r.check])

/-- A key byte: slot in bits 6–4, tag in bits 3–0 (R175). -/
def keyByte (slot : Fin 8) (tag : Fin 16) : Byte := BitVec.ofNat 8 (slot.val * 16 + tag.val)

/-! ## Luminaire link characters (section 11.4) -/

/-- A control character: marker 1 and its low eight bits. -/
def control (low : Nat) : LinkChar := BitVec.ofNat 9 (256 + low)

/-- A data character: marker 0 and a value 0..255. -/
def dataChar (value : Nat) : LinkChar := BitVec.ofNat 9 (value % 256)

/-- ROW OPEN naming row `r`. -/
def rowOpenChar (r : Fin 8) : LinkChar := control (0x10 + r.val)
/-- TAKE. -/
def takeChar : LinkChar := control 0x20
/-- ALL-TOUCH. -/
def allTouchChar : LinkChar := control 0x30
/-- SHED. -/
def shedChar : LinkChar := control 0x40
/-- INIT. -/
def initChar : LinkChar := control 0x55

/-- A level as two data values, high first. -/
def levelValues (level : Nat) : List Nat := [level / 256, level % 256]

/-- The data value that makes a luminaire-link frame's data sum to 0 modulo 256 (R176). -/
def linkCheck (values : List Nat) : Nat := (256 - values.foldl (· + ·) 0 % 256) % 256

/-- The data characters of a frame's values, closed by their check. -/
def checkedData (values : List Nat) : List LinkChar := (values ++ [linkCheck values]).map dataChar

/-- The characters of a frame, in the order they are sent (R125 to R128, section 11.4). -/
def Frame.characters : Frame → List LinkChar
  | .initGroup => List.replicate 8 initChar
  | .burst row first bays =>
    rowOpenChar row :: (checkedData (first :: bays.length :: bays.flatMap fun b => levelValues b.level) ++ [takeChar])
  | .allTouch => [allTouchChar]
  | .shed levels => shedChar :: (checkedData (levels.toList.flatMap levelValues) ++ [takeChar])

/-- The eleven bits of a luminaire-link character on LTX: start bit low, nine data bits least significant first, stop bit
high (R122). -/
def linkLineBits (c : LinkChar) : List Bool := false :: ((List.range 9).map c.getLsbD ++ [true])

/-! ## Sensor link characters (R23, section 11.4) -/

/-- The even-parity bit of eight data bits (R23). -/
def evenParity (b : Byte) : Bool := ((List.range 8).map b.getLsbD).foldl xor false

/-- The eleven bits of a sensor-link character: start bit low, eight data bits least significant first, even parity, stop
bit high (R23). -/
def sensorCharBits (b : Byte) : List Bool := false :: ((List.range 8).map b.getLsbD ++ [evenParity b, true])

/-- The one character of a poll: the position addressed (R28). -/
def pollChar (position : Fin 4) : Byte := BitVec.ofNat 8 position.val

end Sys2Proof.Machine
end

