-- ==== Sys2Proof/Machine/Flags.lean ====
section
/-! DEFINITION. The flag computations: the LAU's five cell flags (R92, R96 to R98, R100, R101) and the flag bits and codes of the
read views (section 11.3). -/

namespace Sys2Proof.Machine

/-! ## The LAU's flags -/

/-- The floored flag: Lmin raised the base level above the quantised level (R97). -/
def flooredFlag (floor level : Nat) : Bool := decide (level < floor)

/-- The capped flag: a present cap below the base level (R100). -/
def cappedFlag (cap : Option Nat) (base : Nat) : Bool :=
  match cap with
  | none => false
  | some v => decide (v < base)

/-- The shed-limited flag: the latch is set and the shed level is below the level it is compared with (R101). -/
def shedLimitedFlag (latch : Bool) (shedLevel level : Nat) : Bool := latch && decide (shedLevel < level)

/-! ## Bits of the views -/

/-- A bit's weight when the flag is set. -/
def bit (flag : Bool) (n : Nat) : Nat := if flag then 2 ^ n else 0

/-- A cell's word in the FLAGS view: bit 0 present, 1 saturated, 2 shortfall, 3 floored, 4 capped, 5 shed-limited, 6 frozen; an
absent cell shows every flag clear (R172). -/
def flagsWord (present : Bool) (r : LauCell) (frozen : Bool) : Nat :=
  if present then
    bit true 0 + bit r.saturated 1 + bit r.shortfall 2 + bit r.floored 3 + bit r.capped 4 + bit r.shedLimited 5 + bit frozen 6
  else 0

/-- The winner kind codes of the GOALS view. -/
def Winner.kindCode : Winner → Nat
  | .base => 0
  | .target _ _ _ => 1
  | .fixed _ _ _ => 2

/-- A cell's word in the GOALS view: winner kind in bits 15–14, goal in bits 9–0, 3FFh absent. -/
def goalsWord (w : Winner) (goal : Option Nat) : Nat := w.kindCode * 16384 + goal.getD 0x3FF

/-- A cell's value in the DAYLIGHT view: FFFFh absent, and a D of 65,535 shown as FFFEh. -/
def daylightBytes (d : Option Nat) : List Byte := optHalfBytes (d.map fun v => min v 65534)

/-- The source codes of READ SECTIONS. -/
def Source.code : Source → Nat
  | .own => 0
  | .lower => 1
  | .upper => 2
  | .dark => 3

/-- Byte 2 of READ SECTIONS: source in bits 7–6, seeded in bit 5, blind step in bits 4–0 with 1Fh for UNKNOWN. -/
def sectionByte (source : Source) (seeded : Bool) (step : Option (Fin 16)) : Byte :=
  BitVec.ofNat 8 (source.code * 64 + bit seeded 5 + (step.map Fin.val).getD 0x1F)

/-- Byte 3 of READ SECTIONS: 00h absent, 01h..FEh the hold in seconds, FFh for 255 s or more. -/
def holdByte (hold : Option Nat) : Byte := BitVec.ofNat 8 (min (hold.getD 0) 255)

/-- The health codes of READ SENSORS. -/
def Health.code : Health → Nat
  | .absent => 0
  | .waiting => 1
  | .fresh => 2
  | .stale => 3
  | .failed => 4
  | .recovering => 5

/-- The last-error codes of READ SENSORS. -/
def errorCode : Option SensorError → Nat
  | none => 0
  | some .parity => 1
  | some .framing => 2
  | some .check => 3
  | some .noReply => 4
  | some .sensorFault => 5

/-- A sensor's four bytes in READ SENSORS. -/
def sensorBytes (r : Sensor) : List Byte :=
  let count := (r.sample.map Sample.count).getD 0
  let range := (r.sample.map Sample.range).getD 0
  [BitVec.ofNat 8 (r.health.code * 32 + errorCode r.lastError * 4 + bit r.saturated 1 + bit r.sample.isSome 0),
   BitVec.ofNat 8 (r.errors * 16 + count / 256), BitVec.ofNat 8 count, BitVec.ofNat 8 range]

/-- The part state codes of READ STATUS; STARTING does not arise there (R174). -/
def PartState.code : PartState → Nat
  | .starting => 0
  | .run => 1
  | .standby => 2

/-- The link state codes of READ STATUS. -/
def LinkState.code : LinkState → Nat
  | .off => 0
  | .init => 1
  | .run => 2

/-- Byte 1 of READ STATUS: bit 0 shed latch, 1 SHEDn asserted, 2 unconfigured indicator, 3 SAVING. -/
def statusByte (latch line unconfigured saving : Bool) : Byte :=
  BitVec.ofNat 8 (bit latch 0 + bit line 1 + bit unconfigured 2 + bit saving 3)

end Sys2Proof.Machine
end

