-- ==== Sys2Proof/Machine/Operands.lean ====
section
/-! DEFINITION. The operands of requests: selectors, fields and codes read from payload bytes (section 11.2), and the
clamps that bring written values into range (R3, R15, R24, R36, R52, R56, R66, R108, R140, R169). The settings load uses the same
clamps on stored values (R146). -/

namespace Sys2Proof.Machine

/-! ## Selectors (R8, R9, R64) -/

/-- The selector of a SET request: its form code and the parameter bytes after it; none where the form is unknown or the
parameters do not have the form's length (R64). -/
def parseSelector (form : Nat) (params : List Byte) : Option Selector :=
  match form, params with
  | 0, [] => some .all
  | 1, [m] => some (.mask m)
  | 2, [r0, r1, b0, b1] => some (.rect r0.toNat r1.toNat b0.toNat b1.toNat)
  | 3, [n] => some (.cell (Fin.ofNat 256 n.toNat))
  | _, _ => none

/-- A RECT whose rows or bays are out of order or out of range (R9). -/
def Selector.malformed : Selector → Bool
  | .rect r0 r1 b0 b1 => decide (r1 < r0) || decide (7 < r1) || decide (b1 < b0) || decide (31 < b1)
  | .all | .mask _ | .cell _ => false

/-- The form code of a selector (section 11.2). -/
def Selector.form : Selector → Nat
  | .all => 0
  | .mask _ => 1
  | .rect _ _ _ _ => 2
  | .cell _ => 3

/-- The two parameter bytes of a selector in READ REQUESTS (section 11.3). -/
def Selector.viewBytes : Selector → List Byte
  | .all => [0, 0]
  | .mask m => [0, m]
  | .rect r0 r1 b0 b1 => halfBytes (r0 * 8192 + r1 * 1024 + b0 * 32 + b1)
  | .cell n => [0, BitVec.ofNat 8 n.val]

/-! ## Request kinds and values (R60, R66) -/

/-- The largest value of an entry's kind (R66). -/
def Kind.limit : Kind → Nat
  | .target => 2000
  | .fixed | .cap => 1000

/-- The kind codes of READ REQUESTS (section 11.3). -/
def Kind.code : Kind → Nat
  | .target => 0
  | .fixed => 1
  | .cap => 2

/-- A written hold: 0 for an indefinite one (R52, R66). -/
def holdOf (written : Nat) : Option Nat := if written = 0 then none else some written

/-! ## Calibration fields (R2, R3, R12) -/

/-- The fields of the calibration record that WRITE CELL FIELD can name (R12). -/
inductive Field where
  | present
  | efficacy
  | floor
  | target
  | profile
  | classByte
  | facade
  deriving DecidableEq, Repr

/-- The field codes of section 11.2. -/
def Field.ofCode : Nat → Option Field
  | 0 => some .present
  | 1 => some .efficacy
  | 2 => some .floor
  | 3 => some .target
  | 4 => some .profile
  | 5 => some .classByte
  | 6 => some .facade
  | _ => none

/-- Whether a field's values are 16 bits wide (R12). -/
def Field.wide : Field → Bool
  | .efficacy | .floor | .target => true
  | .present | .profile | .classByte | .facade => false

/-- The value stored for a written one (R3), before it takes the field's own type: 1 for yes, 0 for no. -/
def Field.clamp : Field → Nat → Nat
  | .present, v => min v 1
  | .efficacy, v => max 1 (min v 4000)
  | .floor, v => min v 1000
  | .target, v => min v 2000
  | .profile, v => min v 7
  | .classByte, v => v
  | .facade, v => min v 15

/-- A calibration record with one field written, the value clamped first (R3). -/
def Field.write (f : Field) (v : Nat) (c : Calibration) : Calibration :=
  match f with
  | .present => { c with present := decide (f.clamp v = 1) }
  | .efficacy => { c with efficacy := f.clamp v }
  | .floor => { c with floor := f.clamp v }
  | .target => { c with target := f.clamp v }
  | .profile => { c with profile := Fin.ofNat 8 (f.clamp v) }
  | .classByte => { c with classByte := BitVec.ofNat 8 (f.clamp v) }
  | .facade => { c with facade := Fin.ofNat 16 (f.clamp v) }

/-- The values of a list of 16-bit quantities. -/
def wideValues : List Byte → List Nat
  | hi :: lo :: rest => (hi.toNat * 256 + lo.toNat) :: wideValues rest
  | _ => []

/-- A WRITE CELL FIELD's fill value and list values, after its fourth byte (R12). -/
def fieldValues (f : Field) (bytes : List Byte) : Nat × List Nat :=
  let values := if f.wide then wideValues bytes else bytes.map BitVec.toNat
  (values.getD 0 0, values.drop 1)

/-! ## Link settings (R24) -/

/-- The clock select codes of section 11.2. -/
def ClockSelect.ofCode : Nat → Option ClockSelect
  | 0 => some .lc0
  | 1 => some .lc1
  | _ => none

/-- The frequency of a link clock in Hz, exact for n in 0..11 (R22). -/
def clockHz (n : Nat) : Nat := 4915200 / 2 ^ n

/-- The other link clock. -/
def ClockSelect.other : ClockSelect → ClockSelect
  | .lc0 => .lc1
  | .lc1 => .lc0

/-- The n of the clock a select names. -/
def selectedN (n0 n1 : Nat) : ClockSelect → Nat
  | .lc0 => n0
  | .lc1 => n1

/-- Steps 3 and 4 of R24 for one link, whose divisor step 1 has raised to at least 4. -/
def clampLink (n0 n1 : Nat) (l : LinkSetting) : LinkSetting :=
  let select := if 9 < selectedN n0 n1 l.select then l.select.other else l.select
  let hz := clockHz (selectedN n0 n1 select)
  { select, divisor := if hz < 2400 * l.divisor then hz / 2400 else l.divisor }

/-- The resulting settings of R24: its four steps in order. -/
def LinkSettings.clamped (w : LinkSettings) : LinkSettings :=
  let n0 := min w.n0 11
  let n1 := min w.n1 11
  let n0 := if 9 < n0 ∧ 9 < n1 then 9 else n0
  { n0, n1, links := w.links.map fun l => clampLink n0 n1 { l with divisor := max l.divisor 4 } }

/-! ## Other clamps -/

/-- A daylight factor as stored (R15). -/
def clampDaylightFactor (v : Nat) : Nat := min v 10000

/-- A level or shed level as stored (R15, R66). -/
def clampLevel (v : Nat) : Nat := min v 1000

/-- A fade step as stored (R108). -/
def clampStep (v : Nat) : Nat := max 1 (min v 1000)

/-- A blind attenuation entry as stored (R56). -/
def clampAttenuation (v : Nat) : Nat := min v 256

/-- A filter shift as stored (R36). -/
def clampShift (v : Nat) : Nat := min v 7

/-- A blind step or fallback step as stored (R52, R56). -/
def clampBlindStep (v : Nat) : Fin 16 := Fin.ofNat 16 (min v 15)

/-- A slot priority as stored (R169). -/
def clampPriority (v : Nat) : Fin 8 := Fin.ofNat 8 (min v 7)

/-- The refresh interval as stored: first the limits 200 and 2000, then down to a multiple of 100 (R140). -/
def clampInterval (v : Nat) : Nat := max 200 (min v 2000) / 100 * 100

/-! ## Codes -/

/-- The quantiser mode codes of section 11.2. -/
def QuantMode.ofCode : Nat → Option QuantMode
  | 0 => some .chop
  | 1 => some .round
  | 2 => some .dither
  | _ => none

/-- The code of a quantiser mode. -/
def QuantMode.code : QuantMode → Nat
  | .chop => 0
  | .round => 1
  | .dither => 2

/-- The class codes of section 11.2. -/
def Role.ofCode : Nat → Option Role
  | 0 => some .empty
  | 1 => some .commissioning
  | 2 => some .supervisor
  | 3 => some .occupant
  | 4 => some .blind
  | _ => none

/-- The code of a class. -/
def Role.code : Role → Nat
  | .empty => 0
  | .commissioning => 1
  | .supervisor => 2
  | .occupant => 3
  | .blind => 4

end Sys2Proof.Machine
end

