-- ==== Sys2Proof/Machine/Grid.lean ====
section
/-! DEFINITION. The grid of chapter 1 (section 1.1): cells, rows and bays, presence (R1) and what a selector covers (R8). -/

namespace Sys2Proof.Machine

/-- The row of a cell: cell number = row × 32 + bay. -/
def rowOf (c : Fin 256) : Fin 8 := ⟨c.val / 32, by omega⟩

/-- The bay of a cell. -/
def bayOf (c : Fin 256) : Fin 32 := ⟨c.val % 32, by omega⟩

/-- The cell at a row and a bay. -/
def cellAt (r : Fin 8) (b : Fin 32) : Fin 256 := ⟨r.val * 32 + b.val, by omega⟩

/-- The rows in ascending order. -/
def allRows : List (Fin 8) := List.finRange 8

/-- The bays in ascending order. -/
def allBays : List (Fin 32) := List.finRange 32

/-- The cells in ascending order. -/
def allCells : List (Fin 256) := List.finRange 256

namespace CellTable

/-- A luminaire is fitted at the cell (R1). -/
def present (t : CellTable) (c : Fin 256) : Bool := (t.cells.get c).present

/-- The row has at least one present cell (R1). -/
def configured (t : CellTable) (r : Fin 8) : Bool := allBays.any fun b => t.present (cellAt r b)

/-- The row is FROZEN (R6). -/
def rowFrozen (t : CellTable) (r : Fin 8) : Bool :=
  match (t.rows.get r).freeze with
  | .live => false
  | .frozen _ => true

/-- The cell's row is FROZEN. -/
def frozenCell (t : CellTable) (c : Fin 256) : Bool := t.rowFrozen (rowOf c)

/-- The shed level of the cell's row (R6). -/
def shedLevelOf (t : CellTable) (c : Fin 256) : Nat := (t.rows.get (rowOf c)).shedLevel

/-- Whether a selector covers a cell on this grid (R8). -/
def covers (t : CellTable) (sel : Selector) (c : Fin 256) : Bool :=
  t.present c &&
    match sel with
    | .all => true
    | .mask m => (t.cells.get c).classByte &&& m != 0
    | .rect r0 r1 b0 b1 =>
      decide (r0 ≤ (rowOf c).val) && decide ((rowOf c).val ≤ r1) && decide (b0 ≤ (bayOf c).val) &&
        decide ((bayOf c).val ≤ b1)
    | .cell n => decide (c = n)

/-- The number of cells a selector covers (R60). -/
def coverage (t : CellTable) (sel : Selector) : Nat := allCells.countP fun c => t.covers sel c

/-- A selector that covers no cell (R9). -/
def vacant (t : CellTable) (sel : Selector) : Bool := !allCells.any fun c => t.covers sel c

end CellTable

end Sys2Proof.Machine
end

