-- ==== Sys2Proof/Machine/Arithmetic.lean ====
section
/-! DEFINITION. The level arithmetic of chapter 5: the six stages that turn a cell's inputs into its goal (R88 to R103), bit
exact. -/

namespace Sys2Proof.Machine

/-- What the LAU reads for one cell at a fade event (R88). -/
structure LauInput where
  feff : Nat
  daylightFactor : Nat
  attenuation : Nat
  winner : Winner
  /-- Tbase, the target of a BASE winner (R4). -/
  baseTarget : Nat
  efficacy : Nat
  floor : Nat
  /-- The held base level, read for a cell of a FROZEN row. -/
  held : Option Nat
  frozen : Bool
  cap : Option Nat
  latch : Bool
  shedLevel : Nat
  standby : Bool
  mode : QuantMode
  deriving DecidableEq, Repr

/-- Stage 1: the daylight at the cell, exact, rounded down and limited to 65,535 lux (R90). -/
def daylightAt (feff factor attenuation : Nat) : Nat := min (feff * factor * attenuation / 2560000) 65535

/-- Stage 4: the quantised level and the new residue for a level in sixteenths (R93, R94). -/
def quantise (mode : QuantMode) (residue l16 : Nat) : Nat × Nat :=
  let whole := l16 / 16
  let fraction := l16 % 16
  match mode with
  | .chop => (whole, residue)
  | .round => (if 8 ≤ fraction then whole + 1 else whole, residue)
  | .dither =>
    let r := residue + fraction
    if 16 ≤ r then (whole + 1, r - 16) else (whole, r)

/-- Stages 3 and 4 on an electric demand E: the level I, the new residue and whether the cell is saturated (R92). -/
def levelOf (mode : QuantMode) (residue : Nat) (demand : Int) (efficacy : Nat) : Nat × Nat × Bool :=
  if demand ≤ 0 then (0, 0, false)
  else if (efficacy : Int) ≤ demand then (1000, 0, true)
  else
    let q := quantise mode residue (demand.toNat * 16000 / efficacy)
    (q.1, q.2, false)

/-- Stages 2 to 5 for a target T, with D formed: demand, level, floor and flags (R91, R92, R97). -/
def LauInput.baseFromTarget (i : LauInput) (old : LauCell) (d target : Nat) : LauCell :=
  let l := levelOf i.mode old.residue ((target : Int) - d) i.efficacy
  { old with
    lastDaylight := some d, residue := l.2.1, saturated := l.2.2, shortfall := old.shortfall || l.2.2,
    floored := flooredFlag i.floor l.1, lastBase := some (max l.1 i.floor) }

/-- Stages 1 to 5: the cell's record with its base level formed (R90 to R99). A FROZEN row takes the held base and leaves the
other fields; its present cells always hold one (R17, R18), and Lmin stands in where none is held (log 12). -/
def LauInput.formBase (i : LauInput) (old : LauCell) : LauCell :=
  if i.frozen then { old with lastBase := some (i.held.getD i.floor) }
  else
    let d := daylightAt i.feff i.daylightFactor i.attenuation
    match i.winner with
    | .fixed _ _ level => { old with lastDaylight := some d, saturated := false, floored := false, lastBase := some level }
    | .target _ _ lux => i.baseFromTarget old d lux
    | .base => i.baseFromTarget old d i.baseTarget

/-- Stage 6 before STANDBY: the base level under the cap and the shed level (R100, R101). -/
def LauInput.limited (i : LauInput) (base : Nat) : Nat :=
  let capped := min base (i.cap.getD base)
  if i.latch then min capped i.shedLevel else capped

/-- Stage 6: the goal and its flags (R100 to R103). -/
def LauInput.applyLimits (i : LauInput) (r : LauCell) : LauCell :=
  let base := r.lastBase.getD 0
  { r with
    capped := cappedFlag i.cap base,
    shedLimited := shedLimitedFlag i.latch i.shedLevel (min base (i.cap.getD base)),
    lastGoal := some (if i.standby then 0 else i.limited base) }

/-- One computation of a cell (R88): its record after all the stages. -/
def LauInput.compute (i : LauInput) (old : LauCell) : LauCell := i.applyLimits (i.formBase old)

namespace State

/-- The LAU's reads for one cell, from the blocks that own them (R88, R49). -/
def lauInput (s : State) (c : Fin 256) : LauInput :=
  let k := s.ct.cells.get c
  let row := s.ct.rows.get (rowOf c)
  let z := s.rlu.resolved.get c
  { feff := (s.effective k.facade).1, daylightFactor := row.daylightFactor, attenuation := s.attenuationOf k.facade,
    winner := z.winner, baseTarget := k.target, efficacy := k.efficacy, floor := k.floor, held := s.ct.held.get c,
    frozen := s.ct.frozenCell c, cap := z.cap, latch := s.fsc.latch, shedLevel := row.shedLevel,
    standby := decide (s.fsc.part = .standby), mode := s.lau.mode }

/-- A present cell's LAU record after the computation of a fade event (R88). -/
def lauComputed (s : State) (c : Fin 256) : LauCell := (s.lauInput c).compute (s.lau.cells.get c)

/-- The goal of a present cell at a fade event (R103). -/
def goalOf (s : State) (c : Fin 256) : Nat := (s.lauComputed c).lastGoal.getD 0

end State

end Sys2Proof.Machine
end

