-- ==== Sys2Proof/Machine/Timing.lean ====
section
/-! DEFINITION. The periods and lengths of the spec in ticks of 8 µs: 125 ticks make a millisecond, 11 a character of the
luminaire link (R122). -/

namespace Sys2Proof.Machine.Timing

/-- Ticks in `ms` milliseconds. -/
def ticksOfMs (ms : Nat) : Nat := ms * 125

/-- A luminaire-link character time, 88 µs (R122). -/
def character : Nat := 11

/-- The closing gap after a frame, and each inner gap of an INIT group: 2 character times (R122, R125). -/
def gap : Nat := 2 * character

/-- The longest settings load, 20 ms (R145). -/
def load : Nat := ticksOfMs 20

/-- The poll timer's period, 50 ms (R26). -/
def poll : Nat := ticksOfMs 50

/-- The fade timer's period, 100 ms (R109). -/
def fade : Nat := ticksOfMs 100

/-- The one-second timers' period (R42, R63). -/
def second : Nat := ticksOfMs 1000

/-- A row's freeze time, 60 s (R17). -/
def freeze : Nat := ticksOfMs 60000

/-- The time since the last valid sample at which a FRESH sensor becomes STALE, 2 s (R34). -/
def stale : Nat := ticksOfMs 2000

/-- The time at which a STALE or WAITING sensor becomes FAILED, 30 s (R34). -/
def failed : Nat := ticksOfMs 30000

/-- Where the time since the last valid sample stops counting, 6553.5 s (R31). -/
def sinceLimit : Nat := ticksOfMs 6553500

/-- The re-init timer's period, 10 s (R139). -/
def reInit : Nat := ticksOfMs 10000

/-- The time a save takes, 400 ms (R156). -/
def save : Nat := ticksOfMs 400

/-- The longest hold of ZCL in EXECUTING, 2 ms (R163). -/
def clockHold : Nat := ticksOfMs 2

/-- The time after which a level on SHEDn is the observed state, 1 ms (R150). -/
def qualify : Nat := ticksOfMs 1

/-- The stretch of ZCL low that resets the transfer state, 25 ms (R166). -/
def clockLow : Nat := ticksOfMs 25

/-- The time from a frame's first start bit to the end of its closing gap (R122). -/
def frame : Frame → Nat
  | .initGroup => 8 * (character + gap)
  | .burst _ _ bays => (2 * bays.length + 5) * character + gap
  | .allTouch => character + gap
  | .shed _ => 19 * character + gap

/-- The time from a frame's first start bit to the end of its closing character (R122, R137). -/
def closed : Frame → Nat
  | .initGroup => 7 * (character + gap) + character
  | .burst _ _ bays => (2 * bays.length + 5) * character
  | .allTouch => character
  | .shed _ => 19 * character

end Sys2Proof.Machine.Timing
end

