-- ==== Sys2Proof/Machine/LinkOps.lean ====
section
/-! DEFINITION. The Luminaire Link Controller's operations: the urgent row queue (R131), staging (R126, R128), due and ready
rows (R132, R126), the choice of the next frame (R133, R134), the cut (R137) and the completion effects (R125, R129, R130,
R138, R141). -/

namespace Sys2Proof.Machine

namespace LuminaireLink

/-- A row posted: appended at the tail unless the queue holds it already (R131). -/
def post (l : LuminaireLink) (r : Fin 8) : LuminaireLink := if l.queue.contains r then l else { l with queue := l.queue ++ [r] }

/-- The link sending a frame from now. -/
def start (l : LuminaireLink) (f : Frame) : LuminaireLink :=
  { l with flight := some { frame := f, elapsed := 0, ends := Timing.frame f, cut := false } }

/-- An age has reached half the refresh interval (R132). -/
def isDue (l : LuminaireLink) (age : Nat) : Bool := decide (Timing.ticksOfMs l.interval ≤ 2 * age)

end LuminaireLink

namespace State

/-- A present cell's fade level differs from its taken level, or its taken level is absent (R113, R129, R132). -/
def cellDiffers (s : State) (c : Fin 256) : Bool :=
  s.ct.present c && (decide (s.llc.taken.get c = none) || decide (s.fdu.levels.get c ≠ s.llc.taken.get c))

/-- Some present cell of the row differs (R113, R132). -/
def rowDiffers (s : State) (r : Fin 8) : Bool := allBays.any fun b => s.cellDiffers (cellAt r b)

/-- Every present cell of the row holds a fade level (R126). -/
def rowReady (s : State) (r : Fin 8) : Bool :=
  s.ct.configured r && allBays.all fun b => !s.ct.present (cellAt r b) || (s.fdu.levels.get (cellAt r b)).isSome

/-- The bays of a row from its lowest present bay to its highest (R126). -/
def burstRange (s : State) (r : Fin 8) : List (Fin 32) :=
  ((allBays.dropWhile fun b => !s.ct.present (cellAt r b)).reverse.dropWhile fun b => !s.ct.present (cellAt r b)).reverse

/-- The entry staged for a bay: its present cell's fade level, or 0 staged for no cell (R126). -/
def stagedBay (s : State) (r : Fin 8) (b : Fin 32) : StagedBay :=
  if s.ct.present (cellAt r b) then { level := (s.fdu.levels.get (cellAt r b)).getD 0, staged := true }
  else { level := 0, staged := false }

/-- The BURST of a row as staged now (R126). -/
def stageBurst (s : State) (r : Fin 8) : Frame :=
  .burst r (((s.burstRange r).head?.map Fin.val).getD 0) ((s.burstRange r).map (s.stagedBay r))

/-- The SHED frame as staged now (R128). -/
def stageShed (s : State) : Frame := .shed (s.ct.rows.map RowRecord.shedLevel)

/-- The age of a configured row, if the row is due (R132). -/
def dueAge (s : State) (r : Fin 8) : Option Nat :=
  if s.ct.configured r then (s.llc.ages.get r).filter s.llc.isDue else none

/-- The due row of greatest age, the lower row number among equals (R133, line 4). -/
def dueRow (s : State) : Option (Fin 8) :=
  (allRows.foldl (fun best r =>
    match s.dueAge r, best with
    | none, _ => best
    | some a, none => some (r, a)
    | some a, some (_, x) => if x < a then some (r, a) else best) (none : Option (Fin 8 × Nat))).map Prod.fst

/-- A BURST of the row starts, and the row leaves the queue (R126, R131). -/
def startBurst (s : State) (r : Fin 8) : State :=
  s.setLlc { s.llc.start (s.stageBurst r) with queue := s.llc.queue.filter (· ≠ r) }

/-- One frame selection: the first line of R133's table that applies. -/
def select (s : State) : State :=
  if s.llc.pendingShed && s.fsc.latch then s.setLlc { s.llc.start s.stageShed with pendingShed := false }
  else
    let s := s.setLlc { s.llc with pendingShed := false }
    if s.llc.pendingInit then s.setLlc { s.llc.start .initGroup with pendingInit := false }
    else if s.llc.pendingInterval.isSome then s.setLlc (s.llc.start .allTouch)
    else
      match s.dueRow with
      | some r => if s.rowDiffers r && s.rowReady r then s.startBurst r else s.setLlc (s.llc.start .allTouch)
      | none =>
        match s.llc.queue.find? s.rowReady with
        | some r => s.startBurst r
        | none => s

/-- A selection prompted by an event: made at once when the link is in RUN and idle, else left to the next completion
(R134). -/
def prompt (s : State) : State :=
  if s.llc.state = .run ∧ s.llc.flight = none then s.select else s

/-- The frame in flight has completed: the link is free and selects again (R122, R134). -/
def freeLink (s : State) : State := (s.setLlc { s.llc with flight := none }).prompt

/-- The configured rows that `p` picks posted in ascending row number (R113, R125). -/
def postRows (s : State) (p : Fin 8 → Bool) : State :=
  s.setLlc ((allRows.filter fun r => s.ct.configured r && p r).foldl LuminaireLink.post s.llc)

/-- Every configured row's age set to 0 (R130). -/
def touchAll (s : State) : State :=
  s.setLlc { s.llc with ages := .ofFn fun r : Fin 8 => if s.ct.configured r then some 0 else s.llc.ages.get r }

/-- A pending interval becomes R and is made absent (R141). -/
def applyInterval (s : State) : State :=
  match s.llc.pendingInterval with
  | none => s
  | some v => s.setLlc { s.llc with interval := v, pendingInterval := none }

/-! ## The cut (R137) -/

/-- The tick at which a frame, cut at tick `t`, has sent its last character: the end of the character on the line, or `t` itself
in an inner gap of an INIT group (R137). -/
def cutCharacterEnd (f : Frame) (t : Nat) : Nat :=
  match f with
  | .initGroup =>
    let unit := Timing.character + Timing.gap
    if t % unit < Timing.character then t / unit * unit + Timing.character else t
  | .burst _ _ _ | .allTouch | .shed _ => (t / Timing.character + 1) * Timing.character

/-- Whether the shed latch's setting cuts a flight: a BURST or an INIT group, not cut before, whose closing character has not been
sent (R137); a SHED frame and an ALL-TOUCH are not cut (R138; log 6). -/
def cuttable (f : Flight) : Bool :=
  match f.frame with
  | .initGroup | .burst _ _ _ => !f.cut && decide (f.elapsed < Timing.closed f.frame)
  | .allTouch | .shed _ => false

/-- The flight cut now: it completes after a closing gap (R137). -/
def cutFlight (f : Flight) : Flight := { f with cut := true, ends := cutCharacterEnd f.frame f.elapsed + Timing.gap }

/-- The cut of the frame in flight, in RUN (R137). -/
def cutFrame (s : State) : State :=
  match s.llc.state, s.llc.flight with
  | .run, some f => if cuttable f then s.setLlc { s.llc with flight := some (cutFlight f) } else s
  | _, _ => s

/-! ## Completions -/

/-- The completion effects of an INIT group: taken levels absent, every configured row posted; in INIT the link enters RUN, the
part with it, and the fade and re-init timers start (R125, R109, R139, R145). -/
def initDone (s : State) : State :=
  let wasInit := decide (s.llc.state = .init)
  let s := (s.setLlc { s.llc with taken := .const none 8 }).postRows fun _ => true
  if wasInit then
    ((s.setLlc { s.llc with state := .run, reInit := some 0 }).setFdu { s.fdu with timer := some 0 }).setFsc
      { s.fsc with part := .run }
  else s

/-- The bay's entry in a staged burst, if its range reaches that bay. -/
def stagedAt (first : Nat) (bays : List StagedBay) (b : Fin 32) : Option StagedBay :=
  if first ≤ b.val then bays[b.val - first]? else none

/-- The completion effects of a BURST of row `r`: the staged cells still present take their staged levels, the row's age
becomes 0, and the row is posted if it still differs (R129). -/
def burstDone (s : State) (r : Fin 8) (first : Nat) (bays : List StagedBay) : State :=
  let s := s.setLlc { s.llc with
    taken := .ofFn fun c : Fin 256 =>
      if rowOf c = r ∧ s.ct.present c = true then
        match stagedAt first bays (bayOf c) with
        | some b => if b.staged then some b.level else s.llc.taken.get c
        | none => s.llc.taken.get c
      else s.llc.taken.get c,
    ages := if s.ct.configured r then s.llc.ages.set r (some 0) else s.llc.ages }
  if s.ct.configured r && s.rowDiffers r then s.setLlc (s.llc.post r) else s

/-- The completion effects of a SHED frame: every age 0, every taken level at most its row's staged shed level, and a pending
interval made R (R130, R141). -/
def shedDone (s : State) (levels : Table Nat 3) : State :=
  ((s.setLlc { s.llc with
    taken := .ofFn fun c : Fin 256 =>
      if s.ct.present c then (s.llc.taken.get c).map fun v => min v (levels.get (rowOf c)) else s.llc.taken.get c }).touchAll).applyInterval

/-- The completion effects of a cut frame (R138). -/
def cutDone (s : State) : Frame → State
  | .burst r _ _ => if s.ct.configured r then s.setLlc (s.llc.post r) else s
  | .initGroup => s.setLlc { s.llc with pendingInit := true }
  | .allTouch | .shed _ => s

/-- The completion effects of a frame that was not cut. -/
def frameDone (s : State) : Frame → State
  | .initGroup => s.initDone
  | .burst r first bays => s.burstDone r first bays
  | .allTouch => s.touchAll.applyInterval
  | .shed levels => s.shedDone levels

/-- The completion of the frame in flight at the end of its closing gap: its effects, and then the next selection (R122). -/
def complete (s : State) : State :=
  match s.llc.flight with
  | none => s
  | some f => (if f.cut then s.cutDone f.frame else s.frameDone f.frame).freeLink

/-- The completion of the frame in flight if it is of the kind that `p` picks. -/
def completeIf (s : State) (p : Flight → Bool) : State :=
  match s.llc.flight with
  | none => s
  | some f => if p f then s.complete else s

end State

end Sys2Proof.Machine
end

