-- ==== Sys2Proof/Machine/ListOps.lean ====
section
/-! DEFINITION. The request list's operations: resolution (R78), re-resolution within a change (R79, R80), the eviction search
(R68), removal (R72 to R75, R77) and the countdown of holds (R75). -/

namespace Sys2Proof.Machine

namespace Entry

/-- Two entries have the same key (R60). -/
def sameKey (e f : Entry) : Bool := e.slot == f.slot && e.tag == f.tag

/-- The winner an entry gives a cell it governs (R78); a CAP entry is never a winner. -/
def asWinner (e : Entry) : Winner :=
  match e.kind with
  | .target => .target e.slot e.tag e.value
  | .fixed => .fixed e.slot e.tag e.value
  | .cap => .base

/-- One expiry of the one-second timer for an entry: `none` when its hold reaches 0 (R75). -/
def countDown (e : Entry) : Option Entry :=
  match e.hold with
  | none => some e
  | some h => if h ≤ 1 then none else some { e with hold := some (h - 1) }

end Entry

/-- Among the entries, oldest first, the highest-priority, then newest, TARGET or FIXED entry that covers the cell (R78). -/
def winningEntry (t : CellTable) (c : Fin 256) (l : List Entry) : Option Entry :=
  l.foldl (fun best e =>
    if e.kind ≠ .cap ∧ t.covers e.selector c then
      match best with
      | none => some e
      | some b => if b.priority ≤ e.priority then some e else best
    else best) none

/-- The least value among the CAP entries that cover the cell (R78). -/
def leastCap (t : CellTable) (c : Fin 256) (l : List Entry) : Option Nat :=
  l.foldl (fun best e =>
    if e.kind = .cap ∧ t.covers e.selector c then
      match best with
      | none => some e.value
      | some v => some (min v e.value)
    else best) none

/-- The resolved record of a cell under a list on a grid (R78). -/
def resolve (t : CellTable) (l : List Entry) (c : Fin 256) : Resolved :=
  { winner := match winningEntry t c l with
      | none => .base
      | some e => e.asWinner,
    cap := leastCap t c l }

/-- The eviction candidate for a new entry of priority `p`: of the TARGET and FIXED entries of strictly lower priority, one of
the lowest priority, the oldest of those (R68). -/
def evictionCandidate (p : Fin 8) (l : List Entry) : Option Entry :=
  l.foldl (fun best e =>
    if e.kind ≠ .cap ∧ e.priority < p then
      match best with
      | none => some e
      | some b => if e.priority < b.priority then some e else best
    else best) none

namespace State

/-- The list changed to `list`, with the cells that `changed` selectors cover re-resolved from the whole new list (R79). -/
def setList (s : State) (list : List Entry) (changed : List Selector) : State :=
  s.setRlu { s.rlu with
    list := list,
    resolved := .ofFn fun c : Fin 256 =>
      if changed.any fun sel => s.ct.covers sel c then resolve s.ct list c else s.rlu.resolved.get c }

/-- Every entry that `p` picks removed, as one change with one re-resolution (R73, R75, R79). -/
def removeEntries (s : State) (p : Entry → Bool) : State :=
  s.setList (s.rlu.list.filter fun e => !p e) ((s.rlu.list.filter p).map Entry.selector)

/-- The CT's notification of a presence or class byte change: every coverage count recomputed and every cell re-resolved
against the grid as it now stands (R80). -/
def regrid (s : State) : State :=
  let list := s.rlu.list.map fun e => { e with coverage := s.ct.coverage e.selector }
  s.setRlu { s.rlu with list := list, resolved := .ofFn fun c : Fin 256 => resolve s.ct list c }

/-- One expiry of the RLU's one-second timer (R75). -/
def countEntries (s : State) : State :=
  let list := s.rlu.list.filterMap Entry.countDown
  let gone := s.rlu.list.filter fun e => e.countDown.isNone
  s.setList list (gone.map Entry.selector)

end State

end Sys2Proof.Machine
end

