-- ==== Sys2Proof/Machine/SensorOps.lean ====
section
/-! DEFINITION. The Sensor Link Unit's operations: polling (R26, R27), judging and scaling a reply (R29, R30), the health
machine (R32 to R34) with its hand-offs (R35), and the changes of presence and of standby (R37 to R39). -/

namespace Sys2Proof.Machine

/-! ## Replies -/

/-- A received character whose stop bit reads low has a framing error (R23). -/
def framingError (c : RxChar) : Bool := !c.stop

/-- A received character whose parity bit does not make the count of ones even has a parity error (R23). -/
def parityError (c : RxChar) : Bool := c.parity != evenParity c.data

/-- The bits of a character (R23). -/
def characterBits : Nat := 11

/-- The start limit of R28, 3 character times, in bits. -/
def startLimit : Nat := 3 * characterBits

/-- The completion limit of R28, 6 character times, in bits. -/
def completionLimit : Nat := 6 * characterBits

/-- The outcome of a complete reply (R29). -/
inductive ReplyOutcome where
  | error (kind : SensorError)
  | valid (sample : Sample) (saturated : Bool)
  deriving DecidableEq, Repr

/-- The step of a range code, lux per count (R30). -/
def rangeStep (range : Nat) : Nat := 4 ^ range

/-- The reading in a reply's two value characters (section 11.4), scaled to lux (R30). -/
def sampleOf (high low : Byte) : Sample :=
  let range := high.toNat / 64
  let count := high.toNat / 4 % 16 * 256 + low.toNat
  { count, range, lux := count * rangeStep range }

/-- The judgement of a reply: the first case of R29's table that applies. -/
def judgeReply (position : Fin 4) (c1 c2 c3 : RxChar) : ReplyOutcome :=
  if framingError c1 || framingError c2 || framingError c3 then .error .framing
  else if parityError c1 || parityError c2 || parityError c3 then .error .parity
  else if byteSum [pollChar position, c1.data, c2.data, c3.data] ≠ 0 then .error .check
  else
    match c1.data.toNat % 4 with
    | 0 => .valid (sampleOf c1.data c2.data) false
    | 1 => .valid (sampleOf c1.data c2.data) true
    | _ => .error .sensorFault

/-- The bit times from a reply's first start bit to the end of its last stop bit. -/
def replyLength (c2 c3 : RxChar) : Rat := 3 * characterBits + c2.gap + c3.gap

/-- The outcome of a poll by its reply: NO_REPLY where a limit of R28 has run out, by the part's own count of the poll or by the
reply's own times, else R29's judgement. -/
def timedReply (lapsed : Bool) (position : Fin 4) (c1 c2 c3 : RxChar) : ReplyOutcome :=
  if lapsed = false ∧ c1.gap ≤ startLimit ∧ replyLength c2 c3 ≤ completionLimit then judgeReply position c1 c2 c3
  else .error .noReply

/-! ## The health machine -/

namespace Sensor

/-- A valid sample (R30, R32, R35). -/
def onValid (r : Sensor) (x : Sample) (saturated : Bool) : Sensor × HandOff :=
  let r := { r with errors := 0, since := 0, sample := some x, saturated := saturated }
  match r.health with
  | .waiting => ({ r with health := .fresh }, .seed x.lux)
  | .fresh | .stale => ({ r with health := .fresh }, .filterStep x.lux)
  | .failed => ({ r with health := .recovering, run := 1 }, .unseed)
  | .recovering =>
    if 4 ≤ r.run + 1 then ({ r with health := .fresh, run := 0 }, .seed x.lux) else ({ r with run := r.run + 1 }, .nothing)
  | .absent => (r, .nothing)

/-- An error outcome (R33, R35). -/
def onError (r : Sensor) (e : SensorError) : Sensor × HandOff :=
  let r := { r with lastError := some e, errors := min (r.errors + 1) 8 }
  match r.health with
  | .waiting | .fresh | .stale => if 8 ≤ r.errors then ({ r with health := .failed }, .unseed) else (r, .nothing)
  | .recovering => ({ r with health := .failed, run := 0 }, .unseed)
  | .failed | .absent => (r, .nothing)

/-- The limit R34 sets on the time since the last valid sample in a health state. -/
def limit : Health → Option Nat
  | .fresh => some Timing.stale
  | .stale | .waiting => some Timing.failed
  | .absent | .failed | .recovering => none

/-- The limit of the state is reached (R34, R35). The time then stands at the limit or beyond. -/
def onTimeout (r : Sensor) : Sensor × HandOff :=
  match r.health with
  | .fresh => ({ r with health := .stale, since := max r.since Timing.stale }, .nothing)
  | .stale | .waiting => ({ r with health := .failed, since := max r.since Timing.failed }, .unseed)
  | .absent | .failed | .recovering => (r, .nothing)

/-- A present sensor at the entry to STANDBY (R38). -/
def toStandby (r : Sensor) : Sensor :=
  if r.present then { r with health := .waiting, errors := 0, since := 0, run := 0 } else r

end Sensor

/-! ## Links and positions -/

/-- The sensor at a position of a link: sensor s is on link s div 4, at position s mod 4. -/
def sensorAt (l p : Fin 4) : Fin 16 := ⟨l.val * 4 + p.val, by omega⟩

/-- The link of a sensor. -/
def linkOf (i : Fin 16) : Fin 4 := ⟨i.val / 4, by omega⟩

/-- The position of a sensor on its link. -/
def positionOf (i : Fin 16) : Fin 4 := ⟨i.val % 4, by omega⟩

/-- A receive line through a full reset: the part no longer follows a character on it, and the line is as low as it is (R27, R144). -/
def RxLine.throughReset (r : RxLine) : RxLine := { r with character := none }

namespace SensorLinks

/-- A link runs while at least one of its four sensors is present (R25). -/
def running (u : SensorLinks) (l : Fin 4) : Bool := (List.finRange 4).any fun p => (u.sensors.get (sensorAt l p)).present

/-- The first present position after the last one polled, counting upward and wrapping (R26). -/
def nextPosition (u : SensorLinks) (l : Fin 4) : Option (Fin 4) :=
  let start := match u.lastPolled.get l with
    | none => 0
    | some p => p.val + 1
  ((List.range 4).map fun i => Fin.ofNat 4 (start + i)).find? fun p => (u.sensors.get (sensorAt l p)).present

/-- A link starts running: its rotation starts at its lowest present position, and its poll timer starts if polling is
enabled (R26, R37). -/
def startLink (u : SensorLinks) (l : Fin 4) : SensorLinks :=
  { u with timers := u.timers.set l (if u.polling then some 0 else none), lastPolled := u.lastPolled.set l none }

/-- A link stops running: its poll timer stops (R37). -/
def stopLink (u : SensorLinks) (l : Fin 4) : SensorLinks :=
  { u with timers := u.timers.set l none, lastPolled := u.lastPolled.set l none }

/-- Polling is enabled on every link: each running link's poll timer starts (R26, R39, R40). -/
def enablePolling (u : SensorLinks) : SensorLinks :=
  { u with polling := true, timers := .ofFn fun l : Fin 4 => if u.running l then some 0 else none,
           lastPolled := .const none 2 }

/-- Polling is disabled on every link at once: timers stop and polls in flight are abandoned (R38). -/
def disablePolling (u : SensorLinks) : SensorLinks :=
  { u with polling := false, timers := .const none 2, lastPolled := .const none 2, inFlight := .const none 2 }

/-- One bit time of a link (R22), in units of 1/24576 of a tick: 625 times the reference clock periods in a bit. With ticks of 8 µs
and the 4,915,200 Hz reference, times on a link compare exactly in integers. -/
def bitUnits (u : SensorLinks) (l : Fin 4) : Nat :=
  let k := u.settings.links.get l
  625 * (2 ^ selectedN u.settings.n0 u.settings.n1 k.select * k.divisor)

/-- At least `bits` bit times of the link have passed in `ticks`. -/
def lasted (u : SensorLinks) (l : Fin 4) (bits ticks : Nat) : Bool := decide (bits * u.bitUnits l ≤ 24576 * ticks)

/-- A character is partly received on the link: its start bit seen, and its stop bit, the eleventh, not yet due (R23, R27). -/
def receiving (u : SensorLinks) (l : Fin 4) : Bool := (u.lines.get l).character.any fun t => !u.lasted l 10 t

/-- The receive line has been low for longer than one character time (R27). -/
def heldLow (u : SensorLinks) (l : Fin 4) : Bool :=
  (u.lines.get l).low.any fun t => decide (characterBits * u.bitUnits l < 24576 * t)

/-- The busy test of R27. -/
def busy (u : SensorLinks) (l : Fin 4) : Bool := u.receiving l || u.heldLow l

/-- A limit of R28 has run out for a poll in flight: the start limit while no start bit of a reply has come, and after that the
completion limit. -/
def pollOver (u : SensorLinks) (l : Fin 4) (p : Poll) : Bool :=
  match p.started with
  | none => u.lasted l (characterBits + startLimit) p.elapsed
  | some e => u.lasted l completionLimit (p.elapsed - e)

/-- The receive line goes low. Where no character is being received this is a start bit (R27), and, once the poll in flight has been
sent, the first one after it is the reply's (R28). A line that is low already does not go low. -/
def lineFalls (u : SensorLinks) (l : Fin 4) : SensorLinks :=
  let r := u.lines.get l
  if r.low.isSome then u
  else if u.receiving l then { u with lines := u.lines.set l { r with low := some 0 } }
  else
    { u with
      lines := u.lines.set l { character := some 0, low := some 0 },
      inFlight := u.inFlight.set l ((u.inFlight.get l).map fun p =>
        if p.started.isNone && u.lasted l characterBits p.elapsed then { p with started := some p.elapsed } else p) }

/-- The receive line goes high. -/
def lineRises (u : SensorLinks) (l : Fin 4) : SensorLinks :=
  { u with lines := u.lines.set l { u.lines.get l with low := none } }

/-- The receive line goes low while the part is held in reset: no character is followed, and the line counts as low from then on. -/
def lineFallsHeld (u : SensorLinks) (l : Fin 4) : SensorLinks :=
  let r := u.lines.get l
  { u with lines := u.lines.set l { r with low := some (r.low.getD 0) } }

/-- The receive line after the last character of a reply: no character on it, and low only where the last stop bit was. -/
def replyEnds (u : SensorLinks) (l : Fin 4) (last : RxChar) : SensorLinks :=
  { u with lines := u.lines.set l { character := none, low := if last.stop then none else (u.lines.get l).low } }

end SensorLinks

namespace State

/-- A sensor's new record and the hand-off that goes with it (R35). -/
def putSensor (s : State) (i : Fin 16) (x : Sensor × HandOff) : State :=
  (s.setSlu { s.slu with sensors := s.slu.sensors.set i x.1 }).handOff i x.2

/-- A poll timer expiry on link `l`: with the line busy no poll is sent (R26, R27). By the limits of R28 every poll has ended
before; where a command brings the expiry sooner, a free line takes the new poll, and the one still in flight ends without an outcome
for its sensor: DESIGN CHOICE (log 28). -/
def pollExpiry (s : State) (l : Fin 4) : State :=
  match s.slu.timers.get l with
  | none => s
  | some _ =>
    let u := { s.slu with timers := s.slu.timers.set l (some 0) }
    if u.busy l then s.setSlu u
    else
      match u.nextPosition l with
      | none => s.setSlu u
      | some p =>
        s.setSlu { u with inFlight := u.inFlight.set l (some ⟨p, 0, none⟩), lastPolled := u.lastPolled.set l (some p) }

/-- The poll in flight on link `l` ends with an outcome for the sensor polled (R28, R29); with none in flight, the event is
discarded (R27). -/
def endPoll (s : State) (l : Fin 4) (outcome : Fin 4 → Sensor → Sensor × HandOff) : State :=
  match s.slu.inFlight.get l with
  | none => s
  | some p =>
    let i := sensorAt l p.position
    (s.setSlu { s.slu with inFlight := s.slu.inFlight.set l none }).putSensor i
      (outcome p.position (s.slu.sensors.get i))

/-- A limit of R28 has run out for the poll in flight on the link. -/
def pollLapsed (s : State) (l : Fin 4) : Bool := (s.slu.inFlight.get l).any (s.slu.pollOver l)

/-- A reply on link `l` ends the poll in flight with its outcome (R28, R29). -/
def replyOn (s : State) (l : Fin 4) (c1 c2 c3 : RxChar) : State :=
  (s.setSlu (s.slu.replyEnds l c3)).endPoll l fun p r =>
    match timedReply (s.pollLapsed l) p c1 c2 c3 with
    | .error e => r.onError e
    | .valid x saturated => r.onValid x saturated

/-- What the polling of a link meets (R26, R27). -/
def pollEvent (s : State) (l : Fin 4) : PollEvent → State
  | .expires => s.pollExpiry l
  | .falls => s.setSlu (s.slu.lineFalls l)
  | .rises => s.setSlu (s.slu.lineRises l)

/-- While RSTn holds the part in reset nothing is polled; a receive line carries what a sensor or a fault drives (R27, R144). -/
def pollWhileHeld (s : State) (l : Fin 4) : PollEvent → State
  | .expires => s
  | .falls => s.setSlu (s.slu.lineFallsHeld l)
  | .rises => s.setSlu (s.slu.lineRises l)

/-- The poll on link `l` ends with NO_REPLY (R28). -/
def noReplyOn (s : State) (l : Fin 4) : State := s.endPoll l fun _ r => r.onError .noReply

/-- A health limit of sensor `i` runs out; the timers stand still while polling is disabled, in STANDBY and before the
settings load completes (R34). -/
def healthLimit (s : State) (i : Fin 16) : State :=
  if s.slu.polling then s.putSensor i ((s.slu.sensors.get i).onTimeout) else s

/-- The entry to STANDBY, in the SLU and the DLE (R38, R57): polling stops, every present sensor becomes WAITING and its
section is unseeded. -/
def sensorsToStandby (s : State) : State :=
  let present := fun i : Fin 16 => (s.slu.sensors.get i).present
  (s.setSlu { s.slu.disablePolling with sensors := s.slu.sensors.map Sensor.toStandby }).setDle
    { s.dle with sections := .ofFn fun i : Fin 16 =>
        if present i then (s.dle.sections.get i).take .unseed else s.dle.sections.get i }

/-- The exit from STANDBY, in the SLU (R39). -/
def sensorsFromStandby (s : State) : State := s.setSlu s.slu.enablePolling

/-- A change of a sensor's present flag (R37): a cleared record, the section unseeded, a poll to it abandoned, and its link
started or stopped. -/
def changeSensor (s : State) (i : Fin 16) (present : Bool) : State :=
  let l := linkOf i
  let wasRunning := s.slu.running l
  let u := { s.slu with sensors := s.slu.sensors.set i (.cleared present) }
  let u :=
    match u.inFlight.get l with
    | some p => if p.position = positionOf i then { u with inFlight := u.inFlight.set l none } else u
    | none => u
  let u := if !wasRunning && u.running l then u.startLink l else if wasRunning && !u.running l then u.stopLink l else u
  (s.setSlu u).handOff i .unseed

end State

end Sys2Proof.Machine
end

