-- ==== Sys2Proof/Machine/Ops.lean ====
section
/-! DEFINITION. The operations that act on several blocks at once: the shed clamp and the setting of the shed latch (R16, R115,
R151), the part states (R148, R149), the freeze of rows (R17 to R21), changes of presence (R5, R87, R117, R142) and the fade
event (R110 to R113). -/

namespace Sys2Proof.Machine.State

/-! ## Load shed -/

/-- Every present fade level in the rows that `p` picks brought down to its row's shed level, without fading (R16, R115). -/
def clampFades (s : State) (p : Fin 8 → Bool) : State :=
  s.setFdu { s.fdu with
    levels := .ofFn fun c : Fin 256 =>
      if s.ct.present c && p (rowOf c) then (s.fdu.levels.get c).map fun v => min v (s.ct.shedLevelOf c)
      else s.fdu.levels.get c }

/-- The pending-shed flag set, which prompts a selection (R136, R134). -/
def raiseShed (s : State) : State := (s.setLlc { s.llc with pendingShed := true }).prompt

/-- The shed latch becomes set: the FDU's clamp, the pending-shed flag and the cut of the frame in flight, as one change
(R151). Nothing is repeated while it is set already. -/
def setLatch (s : State) : State :=
  if s.fsc.latch then s
  else (((s.setFsc { s.fsc with latch := true }).clampFades fun _ => true).cutFrame).raiseShed

/-! ## Part states -/

/-- The part moves from RUN to STANDBY (R148, R38). -/
def enterStandby (s : State) : State :=
  match s.fsc.part with
  | .run => (s.setFsc { s.fsc with part := .standby }).sensorsToStandby
  | .starting | .standby => s

/-- The part moves from STANDBY to RUN (R149, R39). -/
def leaveStandby (s : State) : State :=
  match s.fsc.part with
  | .standby => (s.setFsc { s.fsc with part := .run }).sensorsFromStandby
  | .starting | .run => s

/-! ## Freeze -/

/-- A row frozen by a taken write (R17), or its freeze timer restarted (R19). A LIVE row's present cells hold their last base
levels, or their floor where they have none. -/
def freezeRow (s : State) (r : Fin 8) : State :=
  let rows := s.ct.rows.set r { s.ct.rows.get r with freeze := .frozen Timing.freeze }
  if s.ct.rowFrozen r then s.setCt { s.ct with rows := rows }
  else
    s.setCt { s.ct with
      rows := rows,
      held := .ofFn fun c : Fin 256 =>
        if rowOf c = r ∧ s.ct.present c = true then some (((s.lau.cells.get c).lastBase).getD (s.ct.cells.get c).floor)
        else s.ct.held.get c }

/-- The FROZEN rows that `p` picks become LIVE, with their held base levels absent and their freeze timers stopped (R20, R21). -/
def unfreezeRows (s : State) (p : Fin 8 → Bool) : State :=
  let thaws := fun r : Fin 8 => s.ct.rowFrozen r && p r
  s.setCt { s.ct with
    rows := .ofFn fun r : Fin 8 => if thaws r then { s.ct.rows.get r with freeze := .live } else s.ct.rows.get r,
    held := .ofFn fun c : Fin 256 => if thaws (rowOf c) then none else s.ct.held.get c }

/-! ## Presence -/

/-- A staged burst in flight after cells have been made absent: their entries stay and are staged for no cell any more (R126,
R129; log 7). -/
def unstage (gone : Fin 256 → Bool) (f : Flight) : Flight :=
  match f.frame with
  | .burst r first bays =>
    { f with frame := .burst r first (bays.mapIdx fun i b =>
        if gone (cellAt r (Fin.ofNat 32 (first + i))) then { b with staged := false } else b) }
  | .initGroup | .allTouch | .shed _ => f

/-- The effects in the other blocks of a calibration write that has changed presence, given the Cell Table before it (R5, R87,
R106, R117, R142): held bases, LAU records, fade and taken levels, row ages, and the urgent row queue. -/
def presenceEffects (s : State) (before : CellTable) : State :=
  let gone := fun c : Fin 256 => before.present c && !s.ct.present c
  let come := fun c : Fin 256 => !before.present c && s.ct.present c
  let s := s.setCt { s.ct with
    held := .ofFn fun c : Fin 256 =>
      if gone c then none
      else if come c then (if s.ct.frozenCell c then some (s.ct.cells.get c).floor else none)
      else s.ct.held.get c }
  let s := s.setLau { s.lau with
    cells := .ofFn fun c : Fin 256 => if gone c || come c then .cleared else s.lau.cells.get c }
  let s := s.setFdu { s.fdu with levels := .ofFn fun c : Fin 256 => if gone c then none else s.fdu.levels.get c }
  s.setLlc { s.llc with
    taken := .ofFn fun c : Fin 256 => if gone c then none else s.llc.taken.get c,
    ages := .ofFn fun r : Fin 8 =>
      if !s.ct.configured r then none else if !before.configured r then some 0 else s.llc.ages.get r,
    queue := s.llc.queue.filter s.ct.configured,
    flight := s.llc.flight.map (unstage gone) }

/-! ## The fade event -/

/-- A fade level moved toward a goal by a profile's steps (R112). -/
def moveLevel (p : Profile) (level goal : Nat) : Nat :=
  if level < goal then min goal (level + p.up)
  else if goal < level then max goal (level - p.down)
  else level

/-- A present cell's fade level after a fade event: seeded at the goal, or moved toward it (R111, R112). -/
def fadedLevel (s : State) (c : Fin 256) : Nat :=
  match s.fdu.levels.get c with
  | none => s.goalOf c
  | some v => moveLevel (s.fdu.profiles.get (s.ct.cells.get c).profile) v (s.goalOf c)

/-- The fade levels and LAU records after steps 1 and 2 of a fade event (R110); the fade timer starts anew (R109). -/
def fadeCells (s : State) : State :=
  (s.setLau { s.lau with cells := .ofFn fun c : Fin 256 => if s.ct.present c then s.lauComputed c else s.lau.cells.get c }).setFdu
    { s.fdu with
      levels := .ofFn fun c : Fin 256 => if s.ct.present c then some (s.fadedLevel c) else s.fdu.levels.get c,
      timer := some 0 }

/-- A fade event: seed or move every present cell, post the rows that differ, and let the link select (R110, R113, R134). It
happens only while the fade timer runs (R109). -/
def fade (s : State) : State :=
  match s.fdu.timer with
  | none => s
  | some _ => (s.fadeCells.postRows s.fadeCells.rowDiffers).prompt

end Sys2Proof.Machine.State
end

