-- ==== Sys2Proof/Machine/StoreOps.lean ====
section
/-! DEFINITION. The settings store's operations: the setting bytes and their check word (R147), the judgement of the store and
what a good or a bad one gives (R146), the snapshot (R155), and the full reset and start-up (R144, R145, R157). -/

namespace Sys2Proof.Machine

/-! ## The setting bytes (R147) -/

/-- The two bytes of a stored 16-bit value. -/
def halfPair (h : Half) : List Byte := [h.extractLsb' 8 8, h.extractLsb' 0 8]

/-- The 2727 setting bytes, in the order of R147's table. -/
def Settings.bytes (x : Settings) : List Byte :=
  (x.cells.toList.flatMap fun c =>
      c.present :: (halfPair c.efficacy ++ halfPair c.floor ++ halfPair c.target ++ [c.profile, c.classByte, c.facade])) ++
    (x.rows.toList.flatMap fun r => halfPair r.daylightFactor ++ halfPair r.shedLevel) ++
    (x.slots.toList.flatMap fun m => [m.address, m.role, m.priority]) ++ [x.own] ++
    x.attenuation.toList.flatMap halfPair ++ [x.fallback] ++
    (x.profiles.toList.flatMap fun p => halfPair p.up ++ halfPair p.down) ++
    (x.sensors.toList.flatMap fun n => [n.present, n.shift]) ++ [x.n0, x.n1] ++
    (x.links.toList.flatMap fun l => [l.select, l.divisor]) ++ [x.mode] ++ halfPair x.interval

/-- The ones' complement of the sum of the setting bytes, modulo 65,536 (R147). -/
def Settings.checkWord (x : Settings) : Half :=
  ~~~ BitVec.ofNat 16 (x.bytes.foldl (fun n b => n + b.toNat) 0)

/-! ## Judging a store (R146) -/

/-- The non-EMPTY slots of a stored master table. -/
def Settings.usedSlots (x : Settings) : List StoredSlot := x.slots.toList.filter fun m => m.role != 0

/-- The master-table tests of R146: distinct addresses in 08h..77h for the non-EMPTY slots, known classes, and at least one
COMMISSIONING slot. -/
def Settings.tableGood (x : Settings) : Bool :=
  x.slots.toList.all (fun m => (Role.ofCode m.role.toNat).isSome) &&
    x.slots.toList.any (fun m => decide (Role.ofCode m.role.toNat = some .commissioning)) &&
    x.usedSlots.all (fun m => addressOk m.address) &&
    decide ((x.usedSlots.map StoredSlot.address).Nodup)

/-- The own-address test of R146. -/
def Settings.ownGood (x : Settings) : Bool :=
  addressOk x.own && !(x.usedSlots.map StoredSlot.address).contains x.own

/-- No stored value is one its writing request refuses with REFUSED_FORMAT: every clock select and the quantiser mode have a
known code (R146, R24, R95). Every other stored value is clamped by its request. -/
def Settings.acceptable (x : Settings) : Bool :=
  x.links.toList.all (fun l => (ClockSelect.ofCode l.select.toNat).isSome) && (QuantMode.ofCode x.mode.toNat).isSome

/-- The store is good (R146). -/
def Store.good (t : Store) : Bool :=
  t.settings.tableGood && t.settings.ownGood && t.settings.acceptable && decide (t.check = some t.settings.checkWord)

/-! ## Stored values and live values -/

/-- A stored calibration record, clamped as WRITE CELL FIELD clamps (R3, R146). -/
def StoredCell.live (c : StoredCell) : Calibration :=
  { present := decide (Field.present.clamp c.present.toNat = 1),
    efficacy := Field.efficacy.clamp c.efficacy.toNat, floor := Field.floor.clamp c.floor.toNat,
    target := Field.target.clamp c.target.toNat, profile := Fin.ofNat 8 (Field.profile.clamp c.profile.toNat),
    classByte := c.classByte, facade := Fin.ofNat 16 (Field.facade.clamp c.facade.toNat) }

/-- A calibration record at its stored widths. -/
def Calibration.stored (c : Calibration) : StoredCell :=
  { present := if c.present then 1 else 0, efficacy := BitVec.ofNat 16 c.efficacy, floor := BitVec.ofNat 16 c.floor,
    target := BitVec.ofNat 16 c.target, profile := BitVec.ofNat 8 c.profile.val, classByte := c.classByte,
    facade := BitVec.ofNat 8 c.facade.val }

/-- A stored master slot; an EMPTY one has address 00h and priority 0 (R169). -/
def StoredSlot.live (m : StoredSlot) : MasterSlot :=
  match Role.ofCode m.role.toNat with
  | none | some .empty => .vacant
  | some role => { role, address := m.address, priority := clampPriority m.priority.toNat }

/-- A master slot at its stored widths. -/
def MasterSlot.stored (m : MasterSlot) : StoredSlot :=
  { address := m.address, role := BitVec.ofNat 8 m.role.code, priority := BitVec.ofNat 8 m.priority.val }

/-- The stored link settings through R24's steps. -/
def Settings.liveLinks (x : Settings) : LinkSettings :=
  LinkSettings.clamped
    { n0 := x.n0.toNat, n1 := x.n1.toNat,
      links := x.links.map fun l => { select := (ClockSelect.ofCode l.select.toNat).getD .lc0, divisor := l.divisor.toNat } }

/-- What a good store gives the blocks: the stored values, each clamped as its writing request clamps it (R146). -/
def Settings.live (x : Settings) : Live where
  cells := x.cells.map StoredCell.live
  rows := x.rows.map fun r => (clampDaylightFactor r.daylightFactor.toNat, clampLevel r.shedLevel.toNat)
  slots := x.slots.map StoredSlot.live
  own := x.own
  attenuation := x.attenuation.map fun v => clampAttenuation v.toNat
  fallback := clampBlindStep x.fallback.toNat
  profiles := x.profiles.map fun p => ⟨clampStep p.up.toNat, clampStep p.down.toNat⟩
  sensors := x.sensors.map fun n => (decide (Field.present.clamp n.present.toNat = 1), clampShift n.shift.toNat)
  links := x.liveLinks
  mode := (QuantMode.ofCode x.mode.toNat).getD .round
  interval := clampInterval x.interval.toNat

/-- The code of a clock select. -/
def ClockSelect.code : ClockSelect → Byte
  | .lc0 => 0
  | .lc1 => 1

/-- The settings at their stored widths (R147). -/
def Live.stored (v : Live) : Settings where
  cells := v.cells.map Calibration.stored
  rows := v.rows.map fun r => ⟨BitVec.ofNat 16 r.1, BitVec.ofNat 16 r.2⟩
  slots := v.slots.map MasterSlot.stored
  own := v.own
  attenuation := v.attenuation.map (BitVec.ofNat 16)
  fallback := BitVec.ofNat 8 v.fallback.val
  profiles := v.profiles.map fun p => ⟨BitVec.ofNat 16 p.up, BitVec.ofNat 16 p.down⟩
  sensors := v.sensors.map fun n => ⟨if n.1 then 1 else 0, BitVec.ofNat 8 n.2⟩
  n0 := BitVec.ofNat 8 v.links.n0
  n1 := BitVec.ofNat 8 v.links.n1
  links := v.links.links.map fun l => ⟨l.select.code, BitVec.ofNat 8 l.divisor⟩
  mode := BitVec.ofNat 8 v.mode.code
  interval := BitVec.ofNat 16 v.interval

namespace State

/-- All the settings as the owning blocks hold them now (R155): the own address and R that are held, not pending ones. -/
def live (s : State) : Live where
  cells := s.ct.cells
  rows := s.ct.rows.map fun r => (r.daylightFactor, r.shedLevel)
  slots := s.zbi.slots
  own := s.zbi.own
  attenuation := s.dle.attenuation
  fallback := s.dle.fallback
  profiles := s.fdu.profiles
  sensors := .ofFn fun i : Fin 16 => ((s.slu.sensors.get i).present, (s.dle.sections.get i).shift)
  links := s.slu.settings
  mode := s.lau.mode
  interval := s.llc.interval

/-- Every block takes its settings from a load, and its records follow (R7, R31, R42, R86, R107, R124, R145, R146). -/
def adopt (s : State) (v : Live) : State :=
  let ct : CellTable :=
    { cells := v.cells, rows := v.rows.map fun r => ⟨r.1, r.2, .live⟩, held := .const none 8 }
  { s with
    ct := ct,
    slu := { s.slu with settings := v.links, sensors := v.sensors.map fun n => .cleared n.1 },
    dle := { s.dle with
      sections := v.sensors.map fun n => .unseeded n.2,
      attenuation := v.attenuation,
      fallback := v.fallback },
    lau := { s.lau with mode := v.mode },
    fdu := { s.fdu with profiles := v.profiles },
    llc := { s.llc with
      ages := .ofFn fun r : Fin 8 => if ct.configured r then some 0 else none,
      interval := v.interval },
    zbi := { s.zbi with slots := v.slots, own := v.own } }

/-- The settings a load gives: the stored ones from a good store, the factory defaults from a bad one (R146). -/
def loaded (s : State) : Live := if s.sst.store.good then s.sst.store.settings.live else Live.factory

/-- The completion of the settings load: every block takes its values, polling and the one-second timers start, and the LLC
enters INIT with its INIT group (R145, R40, R42, R63, R121). -/
def finishLoad (s : State) : State :=
  let t := s.adopt s.loaded
  { t with
    slu := t.slu.enablePolling,
    dle := { t.dle with timer := some 0 },
    rlu := { t.rlu with timer := some 0 },
    llc := { t.llc with state := .init }.start .initGroup,
    sst := { t.sst with loading := none, unconfigured := !s.sst.store.good } }

/-- A full reset, from any cause: every block at its reset values and the settings load of STARTING about to begin. The store
keeps its contents, but for a save under way, which leaves its check word invalid (R144, R157). The part releases both lines of the
zone bus, and finds there what the other parties drive (R160); SHEDn stands at the level the panel gives it, and its qualification
starts (R150); and a
sensor's receive line that is low stays low, with the time for which it has been low (R27): DESIGN CHOICE (log 24). -/
def fullReset (s : State) : State :=
  { State.reset with
    slu := { State.reset.slu with lines := s.slu.lines.map RxLine.throughReset },
    fsc := { State.reset.fsc with shedn := s.fsc.shedn },
    sst := { State.reset.sst with
      store := if s.sst.saving.isSome then { s.sst.store with check := none } else s.sst.store },
    zbi := { State.reset.zbi with lines := { BusLines.resting with zcl := s.zbi.lines.zcl, zda := s.zbi.lines.zda } },
    pending := s.pending }

/-- The part held in reset by RSTn (R144). -/
def holdReset (s : State) : State :=
  { s.fullReset with
    fsc := { s.fullReset.fsc with resetHeld := true },
    sst := { s.fullReset.sst with loading := none } }

/-- A SAVE SETTINGS accepted in IDLE: the snapshot, SAVING, and the invalid check word (R155). -/
def beginSave (s : State) : State :=
  s.setSst { s.sst with
    saving := some { snapshot := s.live.stored, elapsed := 0 },
    store := { s.sst.store with check := none } }

/-- The completion of a save (R156). -/
def finishSave (s : State) : State :=
  match s.sst.saving with
  | none => s
  | some v =>
    s.setSst { s.sst with
      store := { settings := v.snapshot, check := some v.snapshot.checkWord }, saving := none, unconfigured := false }

end State

end Sys2Proof.Machine
end

