-- ==== Sys2Proof/Machine/Catalogue.lean ====
section
/-! DEFINITION. The request catalogue (sections 9.9 and 11.2): codes, admitted lengths, permitted classes and the floor call; and
how the ZBI takes a request and composes its reply (R163, R167, R171). -/

namespace Sys2Proof.Machine

/-- The requests of the catalogue. -/
inductive Request where
  | setTarget
  | setFixed
  | setCap
  | release
  | releaseOwn
  | releaseSlot
  | blindStep
  | readCells
  | readSections
  | readRequests
  | readStatus
  | readSensors
  | clearShortfall
  | writeCellField
  | writeRow
  | calApply
  | writeMasterSlot
  | writeBlindTable
  | writeProfile
  | writeSensor
  | writeLinks
  | writePart
  | saveSettings
  | restart
  | night
  | day
  | shed
  | shedClear
  deriving DecidableEq, Repr

namespace Request

/-- Every request, in the order of the catalogue's codes. -/
def every : List Request :=
  [.setTarget, .setFixed, .setCap, .release, .releaseOwn, .releaseSlot, .blindStep, .readCells, .readSections,
   .readRequests, .readStatus, .readSensors, .clearShortfall, .writeCellField, .writeRow, .calApply, .writeMasterSlot,
   .writeBlindTable, .writeProfile, .writeSensor, .writeLinks, .writePart, .saveSettings, .restart, .night, .day, .shed,
   .shedClear]

/-- The request code (section 11.2). -/
def code : Request → Byte
  | .setTarget => 0x01
  | .setFixed => 0x02
  | .setCap => 0x03
  | .release => 0x04
  | .releaseOwn => 0x05
  | .releaseSlot => 0x06
  | .blindStep => 0x10
  | .readCells => 0x20
  | .readSections => 0x21
  | .readRequests => 0x22
  | .readStatus => 0x23
  | .readSensors => 0x24
  | .clearShortfall => 0x28
  | .writeCellField => 0x30
  | .writeRow => 0x31
  | .calApply => 0x32
  | .writeMasterSlot => 0x33
  | .writeBlindTable => 0x34
  | .writeProfile => 0x35
  | .writeSensor => 0x36
  | .writeLinks => 0x37
  | .writePart => 0x38
  | .saveSettings => 0x39
  | .restart => 0x3A
  | .night => 0x40
  | .day => 0x41
  | .shed => 0x42
  | .shedClear => 0x43

/-- The request a code names, if it names one. -/
def ofCode (b : Byte) : Option Request := every.find? fun k => k.code == b

/-- The payload lengths the ZBI admits (R175). For WRITE CELL FIELD they depend on the field code, byte 3. -/
def admits (k : Request) (p : List Byte) : Bool :=
  let n := p.length
  match k with
  | .setTarget | .setFixed | .setCap => decide (n = 6) || decide (n = 7) || decide (n = 10)
  | .release | .releaseSlot | .readRequests | .clearShortfall | .calApply => decide (n = 1)
  | .releaseOwn | .readStatus | .saveSettings | .restart | .night | .day | .shed | .shedClear => decide (n = 0)
  | .blindStep | .writeRow | .writeProfile => decide (n = 5)
  | .readCells | .writeMasterSlot | .writePart => decide (n = 4)
  | .readSections | .readSensors => decide (n = 2)
  | .writeSensor => decide (n = 3)
  | .writeLinks => decide (n = 10)
  | .writeBlindTable => decide (n = 33)
  | .writeCellField =>
    if 1 ≤ byteAt p 3 ∧ byteAt p 3 ≤ 3 then decide (6 ≤ n) && decide (n ≤ 64) && decide (n % 2 = 0)
    else decide (5 ≤ n) && decide (n ≤ 64)

/-- The classes permitted to send the request (section 9.9); no master is of class EMPTY. -/
def permits (k : Request) (r : Role) : Bool :=
  match k with
  | .setTarget | .setFixed | .release | .releaseOwn =>
    decide (r = .commissioning) || decide (r = .supervisor) || decide (r = .occupant)
  | .setCap | .releaseSlot | .clearShortfall | .night | .day | .shed | .shedClear =>
    decide (r = .commissioning) || decide (r = .supervisor)
  | .blindStep => decide (r = .commissioning) || decide (r = .blind)
  | .readCells | .readSections | .readRequests | .readStatus | .readSensors => decide (r ≠ .empty)
  | .writeCellField | .writeRow | .calApply | .writeMasterSlot | .writeBlindTable | .writeProfile | .writeSensor
  | .writeLinks | .writePart | .saveSettings | .restart => decide (r = .commissioning)

/-- Whether the request is taken on the floor call: NIGHT, DAY, SHED, SHED CLEAR, and SET CAP with the selector ALL (R167,
section 9.9). -/
def onFloor (k : Request) (p : List Byte) : Bool :=
  match k with
  | .night | .day | .shed | .shedClear => true
  | .setCap => decide (byteAt p 5 = 0)
  | _ => false

end Request

/-- What an owner answers to a request: the part after it, the status, and the reply data. -/
structure Answer where
  state : State
  status : Status
  data : List Byte
  deriving DecidableEq, Repr

namespace Answer

/-- A refusal: nothing changes, and no data goes back (R171). -/
def refuse (s : State) (status : Status) : Answer := { state := s, status, data := [] }

/-- An answer with no data. -/
def plain (s : State) (status : Status) : Answer := { state := s, status, data := [] }

/-- DONE, or DONE_CLAMPED where something was clamped, with no data. -/
def doneOr (s : State) (clamped : Bool) : Answer := plain s (if clamped then .doneClamped else .done)

end Answer

namespace State

/-- The slot of the master with this address among the non-EMPTY slots (R163, R168). -/
def senderSlot (s : State) (source : Byte) : Option (Fin 8) :=
  (List.finRange 8).find? fun n =>
    decide ((s.zbi.slots.get n).role ≠ .empty) && decide ((s.zbi.slots.get n).address = source)

/-- The ZBI's checks of a request, in order, and then its owner's answer (R163). -/
def judge (s : State) (k : Request) (owner : Fin 8 → List Byte → State → Answer) (source : Byte) (p : List Byte) : Answer :=
  match s.senderSlot source with
  | none => .refuse s .refusedSource
  | some n =>
    if !k.admits p then .refuse s .refusedFormat
    else if !k.permits (s.zbi.slots.get n).role then .refuse s .refusedClass
    else owner n p s

/-- A request whose length byte or check byte is not acknowledged: discarded, and NOT_ADDRESSED (R162). The address received is absent
from here on: DESIGN CHOICE (log 27). -/
def discardRequest (s : State) : State :=
  s.setZbi { s.zbi with transfer := .notAddressed, address := none, request := none, acked := false }

/-- The moment of taking: the check byte is acknowledged and the ZBI is in EXECUTING (R163). The address received and the bytes received
are absent from here on: DESIGN CHOICE (log 27). -/
def enterExecuting (s : State) : State :=
  s.setZbi { s.zbi with transfer := .executing, address := none, request := none, acked := true }

/-- The reply to a request on the own address, composed while the ZBI is in EXECUTING (R163). -/
def composeAnswer (s : State) (status : Status) (data : List Byte) : State :=
  s.setZbi { s.zbi with transfer := .executing, reply := some (composeReply s.zbi.own status data) }

/-- A request on the floor call gets no reply (R167). -/
def answerFloorCall (s : State) : State := s.setZbi { s.zbi with transfer := .executing, reply := none }

/-- The end of EXECUTING: REPLY_READY with the reply composed, or NOT_ADDRESSED after a request on the floor call (R163, R167). -/
def leaveExecuting (s : State) : State :=
  match s.zbi.transfer with
  | .executing => s.setZbi { s.zbi with transfer := if s.zbi.reply.isSome then .replyReady else .notAddressed }
  | .idle | .receiving | .replyReady | .replying | .notAddressed => s

/-- A byte of a master's that the part does not acknowledge (R161, R164). -/
def notAcked (s : State) : State := s.setZbi { s.zbi with acked := false }

/-- A request taken, at the moment its check byte is acknowledged: judged, and answered (R163). On the floor call `floorOk` says that
the catalogue marks it there, and a refusal is a silent discard (R167). -/
def takeRequest (s : State) (floorOk : Bool) (answer : State → Answer) : State :=
  if s.zbi.address = some Config.floorCall then
    (if floorOk then (answer s.enterExecuting).state else s.enterExecuting).answerFloorCall
  else
    let a := answer s.enterExecuting
    a.state.composeAnswer a.status a.data

end State

/-- What an event of the part does: nothing while RSTn holds it in reset (R144), else its effect. -/
def unlessHeld (f : State → State) (s : State) : Host.Outcome State Fault Refusal :=
  .next (if s.fsc.resetHeld then s else f s)

end Sys2Proof.Machine
end

