-- ==== Sys2Proof/Machine/LinkEvents.lean ====
section
/-! DEFINITION. The fade event and the events of the luminaire link (chapters 6 and 7): the completions of frames, ROW_DUE and the
re-init timer. A completion is taken when the frame in flight is of its kind; with another frame or none in flight nothing
completes (log 5). -/

namespace Sys2Proof.Machine

namespace State

/-- A row's age reaches half the refresh interval (R132, R134): ages grow only with the link in RUN (R124). -/
def rowBecomesDue (s : State) (r : Fin 8) : State :=
  match s.llc.state, s.llc.ages.get r with
  | .run, some a =>
    (s.setLlc { s.llc with
      ages := s.llc.ages.set r (some (max a ((Timing.ticksOfMs s.llc.interval + 1) / 2))) }).prompt
  | _, _ => s

/-- An expiry of the re-init timer, which runs from the link's entry to RUN on (R139). -/
def reInitExpiry (s : State) : State :=
  match s.llc.reInit with
  | none => s
  | some _ => (s.setLlc { s.llc with reInit := some 0, pendingInit := true }).prompt

end State

/-- A flight that is an INIT group sent whole. -/
def isInit (f : Flight) : Bool :=
  match f.frame with
  | .initGroup => !f.cut
  | .burst _ _ _ | .allTouch | .shed _ => false

/-- A flight that is a BURST sent whole. -/
def isBurst (f : Flight) : Bool :=
  match f.frame with
  | .burst _ _ _ => !f.cut
  | .initGroup | .allTouch | .shed _ => false

/-- A flight that is an ALL-TOUCH. -/
def isAllTouch (f : Flight) : Bool :=
  match f.frame with
  | .allTouch => !f.cut
  | .initGroup | .burst _ _ _ | .shed _ => false

/-- A flight that is a SHED frame. -/
def isShed (f : Flight) : Bool :=
  match f.frame with
  | .shed _ => !f.cut
  | .initGroup | .burst _ _ _ | .allTouch => false

/-- A flight that has been cut. -/
def isCut (f : Flight) : Bool := f.cut

/-- The fade timer expires (R110). -/
def execFadeEvent (s : State) : Host.Outcome State Fault Refusal := unlessHeld State.fade s

/-- An INIT group completes (R125). -/
def execInitGroupComplete (s : State) : Host.Outcome State Fault Refusal :=
  unlessHeld (fun s => s.completeIf isInit) s

/-- A BURST completes (R129). -/
def execBurstComplete (s : State) : Host.Outcome State Fault Refusal :=
  unlessHeld (fun s => s.completeIf isBurst) s

/-- An ALL-TOUCH completes (R130, R141). -/
def execAllTouchComplete (s : State) : Host.Outcome State Fault Refusal :=
  unlessHeld (fun s => s.completeIf isAllTouch) s

/-- A SHED frame completes (R130, R141). -/
def execShedFrameComplete (s : State) : Host.Outcome State Fault Refusal :=
  unlessHeld (fun s => s.completeIf isShed) s

/-- A cut frame completes (R138). -/
def execCutFrameComplete (s : State) : Host.Outcome State Fault Refusal :=
  unlessHeld (fun s => s.completeIf isCut) s

/-- A configured row becomes due (R132, R134). -/
def execRowDue (row : Fin 8) (s : State) : Host.Outcome State Fault Refusal :=
  unlessHeld (fun s => s.rowBecomesDue row) s

/-- The re-init timer expires (R139). -/
def execReInitTimer (s : State) : Host.Outcome State Fault Refusal := unlessHeld State.reInitExpiry s

end Sys2Proof.Machine
end

