-- ==== Sys2Proof/Machine/CalibrationRequests.lean ====
section
/-! DEFINITION. The calibration requests: WRITE CELL FIELD, WRITE ROW, CAL APPLY (chapter 1), CLEAR SHORTFALL (R104) and the
expiry of a row's freeze timer (R20). -/

namespace Sys2Proof.Machine

/-! ## WRITE CELL FIELD -/

/-- The checked operands of a WRITE CELL FIELD: row, start bay, the count as written, the field, fill and list (R11, R12). -/
structure CellWrite where
  row : Fin 8
  start : Nat
  count : Nat
  field : Field
  fill : Nat
  list : List Nat
  deriving DecidableEq, Repr

/-- A WRITE CELL FIELD's payload through the checks of R11 and of the field code (R12); none where it is refused. -/
def cellWrite (p : List Byte) : Option CellWrite :=
  if 7 < byteAt p 0 ∨ 31 < byteAt p 1 ∨ byteAt p 2 = 0 ∨ 32 < byteAt p 2 then none
  else
    (Field.ofCode (byteAt p 3)).map fun f =>
      { row := Fin.ofNat 8 (byteAt p 0), start := byteAt p 1, count := byteAt p 2, field := f,
        fill := (fieldValues f (p.drop 4)).1, list := (fieldValues f (p.drop 4)).2 }

namespace CellWrite

/-- n′, the number of cells written: the run stops at bay 31 (R11). -/
def cells (w : CellWrite) : Nat := min w.count (32 - w.start)

/-- The value applied to the `i`-th cell of the run: its list value, or the fill value (R13). -/
def valueAt (w : CellWrite) (i : Nat) : Nat := w.list.getD i w.fill

/-- Whether a cell lies in the run (R11). -/
def writes (w : CellWrite) (c : Fin 256) : Bool :=
  decide (rowOf c = w.row) && decide (w.start ≤ (bayOf c).val) && decide ((bayOf c).val < w.start + w.cells)

/-- A cell's calibration record after the write (R3, R13). -/
def record (w : CellWrite) (c : Fin 256) (old : Calibration) : Calibration :=
  if w.writes c then w.field.write (w.valueAt ((bayOf c).val - w.start)) old else old

/-- Some value applied differs from the value stored, or the count was cut short (R3, R11, R13). -/
def clamped (w : CellWrite) : Bool :=
  decide (w.cells < w.count) ||
    (List.range w.cells).any fun i => decide (w.field.clamp (w.valueAt i) ≠ w.valueAt i)

/-- The list result codes: 0 FILLED, 1 EQUAL, 2 TRUNCATED (R13, section 11.2). -/
def listResult (w : CellWrite) : Byte :=
  if w.list.length < w.cells then 0 else if w.list.length = w.cells then 1 else 2

/-- The records written, as one change, on a grid (R14). -/
def onto (w : CellWrite) (t : CellTable) : CellTable :=
  { t with cells := .ofFn fun c : Fin 256 => w.record c (t.cells.get c) }

/-- The write changes the present field or the class byte of some cell, so that the RLU is notified (R4, R14). -/
def notifies (w : CellWrite) (t : CellTable) : Bool :=
  (decide (w.field = .present) || decide (w.field = .classByte)) &&
    allCells.any fun c => decide (w.record c (t.cells.get c) ≠ t.cells.get c)

/-- A taken WRITE CELL FIELD (R14): the row frozen or its timer restarted, the run written, presence acted on, and the RLU
notified. -/
def apply (w : CellWrite) (s : State) : State :=
  let t := s.freezeRow w.row
  let t := (t.setCt (w.onto t.ct)).presenceEffects s.ct
  if w.notifies s.ct then t.regrid else t

end CellWrite

/-- WRITE CELL FIELD at the CT (R11 to R14). -/
def takeCellField (_ : Fin 8) (p : List Byte) (s : State) : Answer :=
  match cellWrite p with
  | none => .refuse s .refusedFormat
  | some w =>
    { state := w.apply s, status := if w.clamped then .doneClamped else .done,
      data := [w.listResult, BitVec.ofNat 8 w.cells] }

/-! ## WRITE ROW -/

/-- A taken WRITE ROW of clamped values (R15, R16): the row frozen or its timer restarted, the values stored, and, when the shed
level changes under a set latch, the clamp of the row and the pending SHED. -/
def State.writeRow (s : State) (r : Fin 8) (factor shed : Nat) : State :=
  let t := s.freezeRow r
  let t := t.setCt { t.ct with
    rows := t.ct.rows.set r { t.ct.rows.get r with daylightFactor := factor, shedLevel := shed } }
  if s.fsc.latch ∧ shed ≠ (s.ct.rows.get r).shedLevel then (t.clampFades fun x => decide (x = r)).raiseShed else t

/-- WRITE ROW at the CT (R15). -/
def takeRow (_ : Fin 8) (p : List Byte) (s : State) : Answer :=
  if 7 < byteAt p 0 then .refuse s .refusedFormat
  else
    .doneOr (s.writeRow (Fin.ofNat 8 (byteAt p 0)) (clampDaylightFactor (halfAt p 1)) (clampLevel (halfAt p 3)))
      (decide (10000 < halfAt p 1) || decide (1000 < halfAt p 3))

/-! ## CAL APPLY and CLEAR SHORTFALL -/

/-- A row operand that names one row, or every row by FFh (R21, R104). -/
def rowNamed (operand : Nat) (r : Fin 8) : Bool := decide (operand = 255) || decide (r.val = operand)

/-- CAL APPLY at the CT (R21). -/
def takeCalApply (_ : Fin 8) (p : List Byte) (s : State) : Answer :=
  let n := byteAt p 0
  if 7 < n ∧ n ≠ 255 then .refuse s .refusedFormat
  else
    .plain (s.unfreezeRows (rowNamed n))
      (if allRows.any fun r => rowNamed n r && s.ct.rowFrozen r then .done else .doneNothing)

/-- CLEAR SHORTFALL at the LAU (R104). -/
def takeClearShortfall (_ : Fin 8) (p : List Byte) (s : State) : Answer :=
  let n := byteAt p 0
  if 7 < n ∧ n ≠ 255 then .refuse s .refusedFormat
  else
    let hit := fun c : Fin 256 => rowNamed n (rowOf c) && (s.lau.cells.get c).shortfall
    let cleared := allCells.countP hit
    { state := s.setLau { s.lau with
        cells := .ofFn fun c : Fin 256 =>
          if hit c then { s.lau.cells.get c with shortfall := false } else s.lau.cells.get c },
      status := if cleared = 0 then .doneNothing else .done,
      data := halfBytes cleared }

/-! ## Meanings -/

/-- A row's freeze timer expires (R20); nothing happens to a LIVE row, whose timer does not run. -/
def execFreezeTimerExpiry (row : Fin 8) (s : State) : Host.Outcome State Fault Refusal :=
  unlessHeld (fun s => s.unfreezeRows fun r => decide (r = row)) s

end Sys2Proof.Machine
end

