-- ==== Sys2Proof/Machine/DaylightRequests.lean ====
section
/-! DEFINITION. The requests of chapter 3 that write (BLIND STEP, WRITE BLIND TABLE) and the DLE's one-second timer. -/

namespace Sys2Proof.Machine

/-- Section `i` is named by a section set (section 11.2). -/
def named (set : Nat) (i : Fin 16) : Bool := set.testBit i.val

/-- BLIND STEP at the DLE (R52): every named section takes the step and the hold. -/
def takeBlindStep (_ : Fin 8) (p : List Byte) (s : State) : Answer :=
  if halfAt p 0 = 0 then .refuse s .refusedSelector
  else
    .doneOr
      (s.setDle { s.dle with
        sections := .ofFn fun i : Fin 16 =>
          if named (halfAt p 0) i then
            { s.dle.sections.get i with step := some (clampBlindStep (byteAt p 2)), hold := holdOf (halfAt p 3) }
          else s.dle.sections.get i })
      (decide (15 < byteAt p 2))

/-- WRITE BLIND TABLE at the DLE (R56): the whole table and the fallback step together. -/
def takeBlindTable (_ : Fin 8) (p : List Byte) (s : State) : Answer :=
  .doneOr
    (s.setDle { s.dle with
      attenuation := .ofFn fun i : Fin 16 => clampAttenuation (halfAt p (2 * i.val)),
      fallback := clampBlindStep (byteAt p 32) })
    (decide (15 < byteAt p 32) || (List.finRange 16).any fun i : Fin 16 => decide (256 < halfAt p (2 * i.val)))

/-- An expiry of the DLE's one-second timer: all sections counted down together (R53), from the settings load on (R42). -/
def State.dleSecond (s : State) : State :=
  match s.dle.timer with
  | none => s
  | some _ => s.setDle { s.dle with timer := some 0, sections := s.dle.sections.map Section.countDown }

/-- The DLE's one-second timer expires (R53). -/
def execDleOneSecondTimer (s : State) : Host.Outcome State Fault Refusal := unlessHeld State.dleSecond s

end Sys2Proof.Machine
end

