-- ==== Sys2Proof/Machine/FloorRequests.lean ====
section
/-! DEFINITION. Night, day and load shed (chapter 8): NIGHT, DAY, SHED, SHED CLEAR, and the SHEDn line, its level and its qualified
changes (R148 to R153). -/

namespace Sys2Proof.Machine

/-- NIGHT at the FSC (R148): DONE in RUN and in STANDBY alike. -/
def takeNight (_ : Fin 8) (_ : List Byte) (s : State) : Answer := .plain s.enterStandby .done

/-- DAY at the FSC (R149). -/
def takeDay (_ : Fin 8) (_ : List Byte) (s : State) : Answer := .plain s.leaveStandby .done

/-- SHED at the FSC (R152). -/
def takeShed (_ : Fin 8) (_ : List Byte) (s : State) : Answer :=
  if s.fsc.latch then .plain s .doneNothing else .plain s.setLatch .done

/-- SHED CLEAR at the FSC (R153). -/
def takeShedClear (_ : Fin 8) (_ : List Byte) (s : State) : Answer :=
  if s.fsc.lineAsserted then .refuse s .refusedState
  else if s.fsc.latch then .plain (s.setFsc { s.fsc with latch := false }) .done
  else .plain s .doneNothing

/-- A level at the SHEDn pin: a change breaks the time for which the line has stood (R150). -/
def State.shednLevel (s : State) (high : Bool) : State :=
  if high = s.fsc.shedn then s else s.setFsc { s.fsc with shedn := high, steady := 0 }

/-- The part with SHEDn observed, after 1 ms at a level (R150). A row given as a command brings the level and the whole millisecond
with it: DESIGN CHOICE (logs 5, 26). -/
def State.observe (s : State) (high : Bool) : State :=
  s.setFsc { s.fsc with shedn := high, steady := Timing.qualify, lineAsserted := !high }

/-- The observed state becomes asserted, which sets the shed latch (R150, R151). -/
def State.lineLow (s : State) : State := if s.fsc.lineAsserted then s.observe false else (s.observe false).setLatch

/-- The observed state becomes released; the latch stays as it is (R150, R153). -/
def State.lineHigh (s : State) : State := s.observe true

/-- SHEDn has been low without a break for 1 ms (R150). -/
def execShednAsserted (s : State) : Host.Outcome State Fault Refusal := unlessHeld State.lineLow s

/-- SHEDn has been high without a break for 1 ms (R150). -/
def execShednReleased (s : State) : Host.Outcome State Fault Refusal := unlessHeld State.lineHigh s

end Sys2Proof.Machine
end

