-- ==== Sys2Proof/Machine/RequestList.lean ====
section
/-! DEFINITION. The requests of chapter 4 (SET TARGET, SET FIXED, SET CAP, RELEASE, RELEASE OWN, RELEASE SLOT) and the RLU's
one-second timer. -/

namespace Sys2Proof.Machine

/-- How a SET request was accepted, with the evicted entry of R68 (R70). -/
inductive Acceptance where
  | appended
  | replaced (old : Entry)
  | evicted (old : Entry)
  deriving DecidableEq, Repr

namespace Acceptance

/-- The outcome code of section 11.2. -/
def code : Acceptance → Byte
  | .appended => 0
  | .replaced _ => 1
  | .evicted _ => 2

/-- The evicted key, FFh where none was evicted (R70, section 11.2). -/
def keyOut : Acceptance → Byte
  | .evicted e => keyByte e.slot e.tag
  | .appended | .replaced _ => 0xFF

/-- The entry that leaves the list for the new one. -/
def leaver : Acceptance → Option Entry
  | .appended => none
  | .replaced e | .evicted e => some e

end Acceptance

/-- The place of a new entry in a list: replacement of its key (R67), a free place (R67a), an eviction (R68), or none (R69). -/
def placeFor (list : List Entry) (e : Entry) : Option Acceptance :=
  match list.find? e.sameKey with
  | some old => some (.replaced old)
  | none =>
    if list.length < Config.listCapacity then some .appended
    else (evictionCandidate e.priority list).map .evicted

/-- The list after an acceptance: the leaver out of its place, the new entry at the newest end (R62, R67, R67a, R68). -/
def acceptInto (list : List Entry) (e : Entry) (a : Acceptance) : List Entry :=
  (match a.leaver with
    | none => list
    | some old => list.filter fun x => !x.sameKey old) ++ [e]

/-- The entry a SET request asks for (R60, R66): its value in the kind's range, the slot's priority, a fresh coverage count. -/
def newEntry (s : State) (kind : Kind) (slot : Fin 8) (p : List Byte) (sel : Selector) : Entry :=
  { slot, tag := Fin.ofNat 16 (byteAt p 0), kind, value := min (halfAt p 1) kind.limit, selector := sel,
    priority := (s.zbi.slots.get slot).priority, hold := holdOf (halfAt p 3), coverage := s.ct.coverage sel }

/-- An accepted entry put into the list, with the re-resolution (R79) and, for an occupant's TARGET or FIXED, the
occupant-request event (R82, R149). -/
def acceptEntry (s : State) (e : Entry) (a : Acceptance) : State :=
  let s' := s.setList (acceptInto s.rlu.list e a) (e.selector :: (a.leaver.map Entry.selector).toList)
  if e.kind ≠ .cap ∧ (s.zbi.slots.get e.slot).role = .occupant then s'.leaveStandby else s'

/-- SET TARGET, SET FIXED and SET CAP at the RLU (R64 to R70): the tag and form, the selector, the clamped value, and the place in
the list. -/
def setEntry (kind : Kind) (slot : Fin 8) (p : List Byte) (s : State) : Answer :=
  if 15 < byteAt p 0 then .refuse s .refusedFormat
  else
    match parseSelector (byteAt p 5) (p.drop 6) with
    | none => .refuse s .refusedFormat
    | some sel =>
      if sel.malformed || s.ct.vacant sel then .refuse s .refusedSelector
      else
        let e := newEntry s kind slot p sel
        match placeFor s.rlu.list e with
        | none => .refuse s .refusedFull
        | some a =>
          let t := acceptEntry s e a
          { state := t, status := if kind.limit < halfAt p 1 then .doneClamped else .done,
            data := [a.code, a.keyOut] ++ halfBytes e.coverage ++ [BitVec.ofNat 8 t.rlu.list.length] }

/-- Every entry that `p` picks released, with the count removed and the list count (R72 to R74). -/
def releaseEntries (s : State) (p : Entry → Bool) : Answer :=
  let removed := s.rlu.list.countP p
  let t := s.removeEntries p
  { state := t, status := if removed = 0 then .doneNothing else .done,
    data := [BitVec.ofNat 8 removed, BitVec.ofNat 8 t.rlu.list.length] }

/-- RELEASE of the sender's entry with a tag (R72). -/
def releaseTag (slot : Fin 8) (p : List Byte) (s : State) : Answer :=
  if 15 < byteAt p 0 then .refuse s .refusedFormat
  else releaseEntries s fun e => decide (e.slot = slot) && decide (e.tag.val = byteAt p 0)

/-- RELEASE OWN (R73). -/
def releaseSender (slot : Fin 8) (_ : List Byte) (s : State) : Answer := releaseEntries s fun e => decide (e.slot = slot)

/-- RELEASE SLOT (R74). -/
def releaseNamed (_ : Fin 8) (p : List Byte) (s : State) : Answer :=
  if 7 < byteAt p 0 then .refuse s .refusedFormat
  else releaseEntries s fun e => decide (e.slot.val = byteAt p 0)

/-- An expiry of the RLU's one-second timer (R75), which runs from the settings load on (R63). -/
def State.rluSecond (s : State) : State :=
  match s.rlu.timer with
  | none => s
  | some _ => (s.setRlu { s.rlu with timer := some 0 }).countEntries

/-- The RLU's one-second timer expires (R75). -/
def execRluOneSecondTimer (s : State) : Host.Outcome State Fault Refusal := unlessHeld State.rluSecond s

end Sys2Proof.Machine
end

