-- ==== Sys2Proof/Machine/SettingsRequests.lean ====
section
/-! DEFINITION. The requests that write the settings of the part: WRITE MASTER SLOT (R169), WRITE PROFILE (R108), WRITE SENSOR
(R36, R37), WRITE LINKS (R24, R25), WRITE PART (R170, R95, R140, R141), SAVE SETTINGS and its completion (R155, R156), and RESTART
(R158). -/

namespace Sys2Proof.Machine

/-! ## WRITE MASTER SLOT -/

/-- Some non-EMPTY slot other than `n` holds an address (R169). -/
def State.addressTaken (s : State) (n : Fin 8) (a : Byte) : Bool :=
  (List.finRange 8).any fun m =>
    decide (m ≠ n) && decide ((s.zbi.slots.get m).role ≠ .empty) && decide ((s.zbi.slots.get m).address = a)

/-- Some slot other than `n` is COMMISSIONING (R169). -/
def State.otherCommissioning (s : State) (n : Fin 8) : Bool :=
  (List.finRange 8).any fun m => decide (m ≠ n) && decide ((s.zbi.slots.get m).role = .commissioning)

/-- A master slot replaced, and its request-list entries purged (R169, R77). -/
def State.writeSlot (s : State) (n : Fin 8) (m : MasterSlot) : State :=
  (s.setZbi { s.zbi with slots := s.zbi.slots.set n m }).removeEntries fun e => decide (e.slot = n)

/-- WRITE MASTER SLOT at the ZBI (R169). -/
def takeMasterSlot (_ : Fin 8) (p : List Byte) (s : State) : Answer :=
  let n : Fin 8 := Fin.ofNat 8 (byteAt p 0)
  let address := p.getD 2 0
  if 7 < byteAt p 0 then .refuse s .refusedFormat
  else
    match Role.ofCode (byteAt p 1) with
    | none => .refuse s .refusedFormat
    | some .empty =>
      if s.otherCommissioning n then .plain (s.writeSlot n .vacant) .done else .refuse s .refusedState
    | some role =>
      if !addressOk address then .refuse s .refusedFormat
      else if s.addressTaken n address || decide (address = s.zbi.own) || decide (some address = s.zbi.pendingOwn) then
        .refuse s .refusedState
      else if role ≠ .commissioning ∧ s.otherCommissioning n = false then .refuse s .refusedState
      else
        .doneOr (s.writeSlot n { role, address, priority := clampPriority (byteAt p 3) }) (decide (7 < byteAt p 3))

/-! ## WRITE PROFILE, WRITE SENSOR, WRITE LINKS -/

/-- WRITE PROFILE at the FDU (R108). -/
def takeProfile (_ : Fin 8) (p : List Byte) (s : State) : Answer :=
  if 7 < byteAt p 0 then .refuse s .refusedFormat
  else
    .doneOr
      (s.setFdu { s.fdu with
        profiles := s.fdu.profiles.set (Fin.ofNat 8 (byteAt p 0)) ⟨clampStep (halfAt p 1), clampStep (halfAt p 3)⟩ })
      (decide (clampStep (halfAt p 1) ≠ halfAt p 1) || decide (clampStep (halfAt p 3) ≠ halfAt p 3))

/-- A filter shift stored for a section (R36, R47). -/
def State.setShift (s : State) (i : Fin 16) (k : Nat) : State :=
  s.setDle { s.dle with sections := s.dle.sections.set i { s.dle.sections.get i with shift := k } }

/-- WRITE SENSOR at the SLU and the DLE (R36, R37, R47). -/
def takeSensor (_ : Fin 8) (p : List Byte) (s : State) : Answer :=
  if 15 < byteAt p 0 then .refuse s .refusedFormat
  else
    let i : Fin 16 := Fin.ofNat 16 (byteAt p 0)
    let present := decide (byteAt p 1 ≠ 0)
    let t := s.setShift i (clampShift (byteAt p 2))
    .doneOr (if present ≠ (s.slu.sensors.get i).present then t.changeSensor i present else t)
      (decide (1 < byteAt p 1) || decide (7 < byteAt p 2))

/-- The link settings as written in a WRITE LINKS; none where a clock select has no code (R24). -/
def writtenLinks (p : List Byte) : Option LinkSettings :=
  if (List.finRange 4).all fun l : Fin 4 => (ClockSelect.ofCode (byteAt p (2 + 2 * l.val))).isSome then
    some
      { n0 := byteAt p 0, n1 := byteAt p 1,
        links := .ofFn fun l : Fin 4 =>
          { select := (ClockSelect.ofCode (byteAt p (2 + 2 * l.val))).getD .lc0, divisor := byteAt p (3 + 2 * l.val) } }
  else none

/-- The resulting settings would change a running link's settings (R25). -/
def State.linksBusy (s : State) (w : LinkSettings) : Bool :=
  (List.finRange 4).any fun l : Fin 4 =>
    s.slu.running l &&
      (decide ((s.slu.settings.links.get l).select = .lc0 ∧ w.n0 ≠ s.slu.settings.n0) ||
        decide ((s.slu.settings.links.get l).select = .lc1 ∧ w.n1 ≠ s.slu.settings.n1) ||
        decide (w.links.get l ≠ s.slu.settings.links.get l))

/-- WRITE LINKS at the SLU (R24, R25). -/
def takeLinks (_ : Fin 8) (p : List Byte) (s : State) : Answer :=
  match writtenLinks p with
  | none => .refuse s .refusedFormat
  | some w =>
    if s.linksBusy w.clamped then .refuse s .refusedBusy
    else .doneOr (s.setSlu { s.slu with settings := w.clamped }) (decide (w.clamped ≠ w))

/-! ## WRITE PART -/

/-- The quantiser mode stored; when it differs, every residue becomes 0 (R95). -/
def State.setMode (s : State) (m : QuantMode) : State :=
  if m = s.lau.mode then s
  else s.setLau { mode := m, cells := s.lau.cells.map fun r => { r with residue := 0 } }

/-- A clamped refresh interval stored: as R when it is at least R, else pending, which prompts a selection (R141, R134). -/
def State.setInterval (s : State) (v : Nat) : State :=
  if s.llc.interval ≤ v then s.setLlc { s.llc with interval := v, pendingInterval := none }
  else (s.setLlc { s.llc with pendingInterval := some v }).prompt

/-- An own address written: pending when it differs from the one held (R170). -/
def State.setOwn (s : State) (a : Byte) : State :=
  if a = s.zbi.own then s else s.setZbi { s.zbi with pendingOwn := some a }

/-- WRITE PART at the ZBI, the LAU and the LLC (R170, R95, R140, R141). -/
def takePart (_ : Fin 8) (p : List Byte) (s : State) : Answer :=
  let own := p.getD 0 0
  if !addressOk own then .refuse s .refusedFormat
  else
    match QuantMode.ofCode (byteAt p 1) with
    | none => .refuse s .refusedFormat
    | some m =>
      if (List.finRange 8).any fun n =>
          decide ((s.zbi.slots.get n).role ≠ .empty) && decide ((s.zbi.slots.get n).address = own) then
        .refuse s .refusedState
      else
        .doneOr (((s.setOwn own).setMode m).setInterval (clampInterval (halfAt p 2)))
          (decide (clampInterval (halfAt p 2) ≠ halfAt p 2))

/-! ## SAVE SETTINGS and RESTART -/

/-- SAVE SETTINGS at the SST (R155). -/
def takeSave (_ : Fin 8) (_ : List Byte) (s : State) : Answer :=
  if s.sst.saving.isSome then .refuse s .refusedBusy else .plain s.beginSave .done

/-- RESTART at the FSC (R158). -/
def takeRestart (_ : Fin 8) (_ : List Byte) (s : State) : Answer :=
  if s.sst.saving.isSome then .refuse s .refusedBusy
  else .plain (s.setFsc { s.fsc with restartPending := true }) .done

/-! ## Meanings -/

/-- The save under way completes (R156). -/
def execSaveComplete (s : State) : Host.Outcome State Fault Refusal := unlessHeld State.finishSave s

end Sys2Proof.Machine
end

