-- ==== Sys2Proof/Machine/Views.lean ====
section
/-! DEFINITION. The five reads: READ CELLS, READ SECTIONS, READ REQUESTS, READ STATUS and READ SENSORS (R59, R83, R105, R120, R172
to R174; layouts of section 11.3). They change nothing. -/

namespace Sys2Proof.Machine

/-- The views of READ CELLS (section 11.2). -/
inductive View where
  | levels
  | goals
  | targets
  | daylight
  | flags
  deriving DecidableEq, Repr

/-- The view codes of section 11.2. -/
def View.ofCode : Nat → Option View
  | 0 => some .levels
  | 1 => some .goals
  | 2 => some .targets
  | 3 => some .daylight
  | 4 => some .flags
  | _ => none

/-- The most cells one read of a view reports (R172). -/
def View.limit : View → Nat
  | .levels => 16
  | .goals | .targets | .daylight | .flags => 32

/-- The value of the TARGETS view: the winner's lux or level, or Tbase for BASE (R81, R172). -/
def targetShown (s : State) (c : Fin 256) : Nat :=
  match (s.rlu.resolved.get c).winner with
  | .base => (s.ct.cells.get c).target
  | .target _ _ lux => lux
  | .fixed _ _ level => level

/-- One cell's record in a view (R172, section 11.3). -/
def cellBytes (s : State) (v : View) (c : Fin 256) : List Byte :=
  match v with
  | .levels => optHalfBytes (s.fdu.levels.get c) ++ optHalfBytes (s.llc.taken.get c)
  | .goals => halfBytes (goalsWord (s.rlu.resolved.get c).winner (s.lau.cells.get c).lastGoal)
  | .targets => halfBytes (targetShown s c)
  | .daylight => daylightBytes (s.lau.cells.get c).lastDaylight
  | .flags => halfBytes (flagsWord (s.ct.present c) (s.lau.cells.get c) (s.ct.frozenCell c))

/-- READ CELLS (R172). -/
def viewCells (_ : Fin 8) (p : List Byte) (s : State) : Answer :=
  let row := byteAt p 0
  let start := byteAt p 1
  let n := byteAt p 2
  match View.ofCode (byteAt p 3) with
  | none => .refuse s .refusedFormat
  | some v =>
    if 7 < row ∨ 31 < start ∨ n = 0 ∨ 32 < n then .refuse s .refusedFormat
    else
      let shown := min n (min (32 - start) v.limit)
      { state := s, status := if shown < n then .doneClamped else .done,
        data := (List.range shown).flatMap fun i => cellBytes s v (Fin.ofNat 256 (row * 32 + start + i)) }

/-- One section's four bytes in READ SECTIONS (R59, section 11.3). -/
def sectionBytes (s : State) (i : Fin 16) : List Byte :=
  let c := s.dle.sections.get i
  let e := s.effective i
  halfBytes (e.1 / 4) ++ [sectionByte e.2 c.seeded c.step, holdByte c.hold]

/-- A read of a run of the 16 sections or sensors (R173): refused when out of range, cut short at 15. -/
def viewRun (bytes : State → Fin 16 → List Byte) (_ : Fin 8) (p : List Byte) (s : State) : Answer :=
  let first := byteAt p 0
  let n := byteAt p 1
  if 15 < first ∨ n = 0 ∨ 16 < n then .refuse s .refusedFormat
  else
    let shown := min n (16 - first)
    { state := s, status := if shown < n then .doneClamped else .done,
      data := (List.range shown).flatMap fun i => bytes s (Fin.ofNat 16 (first + i)) }

/-- READ SECTIONS (R59, R173). -/
def viewSections : Fin 8 → List Byte → State → Answer := viewRun sectionBytes

/-- READ SENSORS (R173). -/
def viewSensors : Fin 8 → List Byte → State → Answer := viewRun fun s i => sensorBytes (s.slu.sensors.get i)

/-- One entry's ten bytes in READ REQUESTS (section 11.3). -/
def entryBytes (e : Entry) : List Byte :=
  [keyByte e.slot e.tag,
   BitVec.ofNat 8 (e.kind.code * 64 + e.selector.form * 16 + bit e.hold.isNone 3 + e.priority.val)] ++
    halfBytes e.value ++ e.selector.viewBytes ++ halfBytes (e.hold.getD 0) ++ halfBytes e.coverage

/-- READ REQUESTS (R83): the list count and up to six entries from a start position. -/
def viewRequests (_ : Fin 8) (p : List Byte) (s : State) : Answer :=
  if 47 < byteAt p 0 then .refuse s .refusedFormat
  else
    { state := s, status := .done,
      data := BitVec.ofNat 8 s.rlu.list.length :: ((s.rlu.list.drop (byteAt p 0)).take 6).flatMap entryBytes }

/-- READ STATUS (R174). -/
def viewStatus (_ : Fin 8) (_ : List Byte) (s : State) : Answer :=
  { state := s, status := .done,
    data :=
      [BitVec.ofNat 8 s.fsc.part.code,
       statusByte s.fsc.latch s.fsc.lineAsserted s.sst.unconfigured s.sst.saving.isSome,
       BitVec.ofNat 8 s.llc.state.code, BitVec.ofNat 8 s.llc.queue.length, BitVec.ofNat 8 s.rlu.list.length,
       BitVec.ofNat 8 s.lau.mode.code] ++ halfBytes s.llc.interval }

end Sys2Proof.Machine
end

