-- ==== Sys2Proof/Machine/BusEvents.lean ====
section
/-! DEFINITION. The zone bus apart from the requests themselves (chapter 9): the bytes of a request (R162), the address byte (R161,
R165), the reading of a reply (R164), STOP and the clock-low timeout (R164, R166, R170, R158), and the two lines below whole bytes
(R159): conditions, bits, acknowledge bits, and what the part drives. -/

namespace Sys2Proof.Machine

/-- The owner of each request of the catalogue. -/
def ownerOf : Request → Fin 8 → List Byte → State → Answer
  | .setTarget => setEntry .target
  | .setFixed => setEntry .fixed
  | .setCap => setEntry .cap
  | .release => releaseTag
  | .releaseOwn => releaseSender
  | .releaseSlot => releaseNamed
  | .blindStep => takeBlindStep
  | .readCells => viewCells
  | .readSections => viewSections
  | .readRequests => viewRequests
  | .readStatus => viewStatus
  | .readSensors => viewSensors
  | .clearShortfall => takeClearShortfall
  | .writeCellField => takeCellField
  | .writeRow => takeRow
  | .calApply => takeCalApply
  | .writeMasterSlot => takeMasterSlot
  | .writeBlindTable => takeBlindTable
  | .writeProfile => takeProfile
  | .writeSensor => takeSensor
  | .writeLinks => takeLinks
  | .writePart => takePart
  | .saveSettings => takeSave
  | .restart => takeRestart
  | .night => takeNight
  | .day => takeDay
  | .shed => takeShed
  | .shedClear => takeShedClear

/-! ## The lines (R159) -/

/-- A change of the two lines that the ZBI recognises (R159). -/
inductive LineChange where
  | start
  | repeatedStart
  | stop
  | clockRises
  | clockFalls
  deriving DecidableEq, Repr

namespace BusLines

/-- The level of ZCL: the wired-AND of what all parties drive, the part's own hold among them (R159, R163). -/
def clock (l : BusLines) : Bool := l.zcl && l.hold.isNone

/-- The level of ZDA: the wired-AND of what all parties drive, this part among them (R159). -/
def data (l : BusLines) : Bool := l.zda && !l.pullsZda

/-- No transfer and no byte under way, and both lines released by the part. -/
def quiet (l : BusLines) : BusLines :=
  { l with inTransfer := false, addressing := false, bits := [], pullsZda := false, hold := none }

/-- The lines after whole bytes, or a STOP, given as one event: their clocks have raised ZCL and the byte under way has ended. With
ZCL standing low after them a new stretch begins (R166): DESIGN CHOICE (log 15). -/
def clocked (l : BusLines) : BusLines :=
  { l with addressing := false, bits := [], pullsZda := false, hold := none, low := if l.zcl then none else some 0 }

/-- What a change of the lines is: with ZCL high throughout, a fall of ZDA is a START, or a repeated START inside a transfer, and a
rise a STOP; else ZCL rises or falls, whatever ZDA does (R159). -/
def change (before after : BusLines) : Option LineChange :=
  match before.clock, after.clock with
  | true, true =>
    match before.data, after.data with
    | true, false => some (if before.inTransfer then .repeatedStart else .start)
    | false, true => some .stop
    | true, true | false, false => none
  | false, true => some .clockRises
  | true, false => some .clockFalls
  | false, false => none

end BusLines

namespace State

/-- The part with the zone bus's lines as given. -/
def setLines (s : State) (l : BusLines) : State := s.setZbi { s.zbi with lines := l }

/-- The part at whole bytes, or a STOP, given as one event. -/
def clocked (s : State) : State := s.setLines s.zbi.lines.clocked

/-! ## The bytes of a request -/

/-- A sound request taken: as the catalogue's request of its code, or, where the code names none, with the source check and then
REFUSED_FORMAT, and discarded on the floor call (R163, R167). -/
def takeCode (s : State) (code source : Byte) (p : List Byte) : State :=
  match Request.ofCode code with
  | some k => s.takeRequest (k.onFloor p) fun t => t.judge k (ownerOf k) source p
  | none =>
    s.takeRequest false fun t =>
      match t.senderSlot source with
      | none => .refuse t .refusedSource
      | some _ => .refuse t .refusedFormat

/-- A byte of a request acknowledged and added to those received (R162). -/
def keepByte (s : State) (bytes : List Byte) : State := s.setZbi { s.zbi with request := some bytes, acked := true }

/-- One byte written to the part (R162, R164). In RECEIVING it is the next byte of the request: acknowledged, but for a length byte
above 64 and a check byte that leaves the sum of all its bytes other than 0; a sound check byte is the moment of taking. In the other
states it is not acknowledged; in REPLYING and EXECUTING no byte can arrive, since the part sends or holds the clock. -/
def receiveByte (s : State) (b : Byte) : State :=
  match s.zbi.transfer with
  | .receiving =>
    let bytes := s.zbi.request.getD [] ++ [b]
    match bytes with
    | _ :: source :: code :: length :: rest =>
      if Config.maxPayload < length.toNat then s.discardRequest
      else if rest.length ≤ length.toNat then s.keepByte bytes
      else if byteSum bytes = 0 then s.takeCode code source (rest.take length.toNat)
      else s.discardRequest
    | _ => s.keepByte bytes
  | .idle | .notAddressed | .replyReady => s.notAcked
  | .executing | .replying => s

/-- One whole byte written, with the clock of its acknowledge bit and, where it is a sound check byte, the hold of ZCL after it. -/
def byteWritten (s : State) (b : Byte) : State :=
  match s.zbi.transfer with
  | .executing | .replying => s
  | .idle | .receiving | .replyReady | .notAddressed => (s.clocked.receiveByte b).leaveExecuting

/-- Whole bytes written one after another. -/
def bytesWritten (s : State) (l : List Byte) : State := l.foldl byteWritten s

/-! ## The address byte -/

/-- The ZBI after an address byte it does not acknowledge: NOT_ADDRESSED, and any reply held is discarded (R161). The address
received is absent then: DESIGN CHOICE (log 27). -/
def ignoreAddress (s : State) : State :=
  s.setZbi { s.zbi with
    transfer := .notAddressed, address := none, request := none, reply := none, acked := false, sent := [], stopped := false }

/-- The ZBI after an own address or floor call for write: RECEIVING, any reply held discarded (R161). -/
def beginRequest (s : State) (byte : Byte) : State :=
  s.setZbi { s.zbi with
    transfer := .receiving, address := some byte, request := some [byte], reply := none, acked := true, sent := [],
    stopped := false }

/-- The ZBI after an own address for read: REPLYING with the reply held, or with NO_REQUEST (R161, R165). The address
received is absent then: DESIGN CHOICE (log 27). -/
def beginReply (s : State) : State :=
  s.setZbi { s.zbi with
    transfer := .replying, address := none, request := none,
    reply := some (s.zbi.reply.getD (composeReply s.zbi.own .noRequest [])), acked := true, sent := [], stopped := false }

/-- The address byte after a START or repeated START (R161). In STARTING nothing is acknowledged; while restart is pending only the
read of the held reply is. -/
def address (s : State) (byte : Byte) : State :=
  match s.zbi.transfer with
  | .executing => s
  | .idle | .receiving | .replyReady | .replying | .notAddressed =>
    match s.fsc.part with
    | .starting => s.ignoreAddress
    | .run | .standby =>
      if s.fsc.restartPending then
        if byte = readAddress s.zbi.own ∧ s.zbi.reply.isSome = true then s.beginReply else s.ignoreAddress
      else if byte = writeAddress s.zbi.own ∨ byte = Config.floorCall then s.beginRequest byte
      else if byte = readAddress s.zbi.own then s.beginReply
      else s.ignoreAddress

/-! ## Reading a reply -/

/-- Byte `i` of what the part sends in REPLYING: the reply from its status byte on, FFh past its check byte, and nothing more (FFh on
the released line) once the master has not acknowledged a byte (R164). -/
def replyByte (z : ZoneBus) (i : Nat) : Byte := if z.stopped then 0xFF else ((z.reply.map Reply.bytes).getD []).getD i 0xFF

/-- The next `n` bytes the part sends in REPLYING (R164). -/
def replyBytes (z : ZoneBus) (n : Nat) : List Byte := (List.range n).map fun i => replyByte z (z.sent.length + i)

/-- The master clocks `n` bytes of the reply (R164). -/
def readReply (s : State) (n : Nat) (ackLast : Bool) : State :=
  match s.zbi.transfer with
  | .replying =>
    s.setZbi { s.zbi with
      sent := s.zbi.sent ++ replyBytes s.zbi n,
      stopped := s.zbi.stopped || (decide (0 < n) && !ackLast) }
  | .idle | .receiving | .executing | .replyReady | .notAddressed => s

/-! ## The end of a transfer -/

/-- The ZBI back in IDLE: a partial request and a held reply are discarded, both lines are released, and a pending own address takes
effect (R164, R166, R170). -/
def endTransfer (s : State) : State :=
  s.setZbi { s.zbi with
    transfer := .idle, address := none, request := none, reply := none, own := s.zbi.pendingOwn.getD s.zbi.own,
    pendingOwn := none, sent := [], stopped := false, lines := s.zbi.lines.quiet }

/-- The end of a transfer, at which a pending restart applies the full reset (R158). -/
def endOrRestart (s : State) : State := if s.fsc.restartPending then s.fullReset else s.endTransfer

/-- A STOP (R164); none can arrive in EXECUTING (R161). -/
def stopCondition (s : State) : State :=
  match s.zbi.transfer with
  | .executing => s
  | .idle | .receiving | .replyReady | .replying | .notAddressed => s.endOrRestart

/-- ZCL held low by others for 25 ms (R166): no effect in IDLE, and it does not run while the part itself holds ZCL. -/
def clockLow (s : State) : State :=
  match s.zbi.transfer with
  | .idle => s
  | .executing => if s.zbi.lines.hold.isSome then s else s.endOrRestart
  | .receiving | .replyReady | .replying | .notAddressed => s.endOrRestart

/-- A STOP given as one event: ZCL is high at it. -/
def stopWhole (s : State) : State :=
  match s.zbi.transfer with
  | .executing => s
  | .idle | .receiving | .replyReady | .replying | .notAddressed => s.clocked.stopCondition

/-! ## The two lines below whole bytes (R159) -/

/-- The byte that eight bits spell, the most significant first. -/
def byteOfBits (bits : List Bool) : Byte := BitVec.ofNat 8 (bits.foldl (fun n b => 2 * n + b.toNat) 0)

/-- The part is sending the byte under way: REPLYING, past the address byte (R164). -/
def sending (s : State) : Bool := decide (s.zbi.transfer = .replying) && !s.zbi.lines.addressing

/-- The part pulls ZDA low for the next bit of the byte under way, where it sends it and the bit is 0. -/
def pullsForBit (s : State) : Bool :=
  s.sending && !(replyByte s.zbi s.zbi.sent.length).getLsbD (7 - s.zbi.lines.bits.length)

/-- What the part drives on ZDA after whole bytes given as one event: with ZCL standing low, the first bit of the next byte it sends
(R159, R164). -/
def driveNext (s : State) : State := s.setLines { s.zbi.lines with pullsZda := !s.zbi.lines.zcl && s.pullsForBit }

/-- Whole bytes of a reply read, given as one event; none is no event. -/
def readWhole (s : State) (n : Nat) (ackLast : Bool) : State :=
  match s.zbi.transfer with
  | .replying => if n = 0 then s else (s.clocked.readReply n ackLast).driveNext
  | .idle | .receiving | .executing | .replyReady | .notAddressed => s

/-- A START or repeated START: the byte under way is discarded, a request being received too, and an address byte follows (R159,
R161, R162). Between the condition and its address byte the ZBI is then in NOT_ADDRESSED: DESIGN CHOICE (log 15). None can arrive
in EXECUTING. -/
def startCondition (s : State) : State :=
  let t := s.setLines { s.zbi.lines with inTransfer := true, addressing := true, bits := [], pullsZda := false }
  match s.zbi.transfer with
  | .executing => s
  | .receiving => t.discardRequest
  | .idle | .replyReady | .replying | .notAddressed => t

/-- ZCL rises: the level of ZDA is sampled, as a bit of the byte under way or as its acknowledge bit (R159). The acknowledge bit of a
byte that the part sends is the master's (R164). -/
def clockRises (s : State) : State :=
  let l := s.zbi.lines
  let t := s.setLines { l with bits := if l.bits.length ≤ 8 then l.bits ++ [l.data] else l.bits, low := none }
  if l.bits.length = 8 ∧ s.sending = true then t.readReply 1 (!l.data) else t

/-- ZCL falls after the eighth bit of a byte: the part acts on a byte it has received, as on a whole byte, and pulls ZDA low to
acknowledge it, or releases ZDA for the master's acknowledge of a byte it has sent (R159, R161, R162, R164). -/
def byteEnds (s : State) : State :=
  if s.sending then s.setLines { s.zbi.lines with pullsZda := false }
  else
    let byte := byteOfBits s.zbi.lines.bits
    let t := if s.zbi.lines.addressing then s.clocked.address byte else s.clocked.receiveByte byte
    t.setLines { s.zbi.lines with pullsZda := t.zbi.acked }

/-- ZCL falls at the end of an acknowledge bit: in EXECUTING the part holds ZCL low from here on (R163); else the next byte begins. -/
def ackEnds (s : State) : State :=
  let t := s.setLines { s.zbi.lines with addressing := false, bits := [] }
  match s.zbi.transfer with
  | .executing => t.setLines { t.zbi.lines with pullsZda := false, hold := some 0, low := none }
  | .idle | .receiving | .replyReady | .replying | .notAddressed => t.setLines { t.zbi.lines with pullsZda := t.pullsForBit }

/-- ZCL falls: a stretch of ZCL low begins (R166), and the part drives ZDA for the next bit (R159). -/
def clockFalls (s : State) : State :=
  let t := s.setLines { s.zbi.lines with low := some 0 }
  if t.zbi.lines.bits.length < 8 then t.setLines { t.zbi.lines with pullsZda := t.pullsForBit }
  else if t.zbi.lines.bits.length = 8 then t.byteEnds
  else t.ackEnds

/-- What the part does at a change of the lines' levels, given the lines before it (R159). -/
def followLines (s : State) (before : BusLines) : State :=
  match before.change s.zbi.lines with
  | none => s
  | some .start | some .repeatedStart => s.startCondition
  | some .stop => s.stopCondition
  | some .clockRises => s.clockRises
  | some .clockFalls => s.clockFalls

/-- The part with new levels driven by the other parties. -/
def driven (s : State) (zcl zda : Bool) : State := s.setLines { s.zbi.lines with zcl, zda }

/-- The other parties drive the lines anew (R159). -/
def linesChange (s : State) (zcl zda : Bool) : State := (s.driven zcl zda).followLines s.zbi.lines

/-- The part has made its checks and releases ZCL (R163). With the line still low through others, a stretch begins (R166). -/
def releaseClock (s : State) : State :=
  match s.zbi.lines.hold with
  | none => s
  | some _ =>
    ((s.setLines { s.zbi.lines with hold := none, low := if s.zbi.lines.zcl then none else some 0 }).leaveExecuting).followLines
      s.zbi.lines

/-- A START or repeated START with its whole address byte (R161). -/
def addressWhole (s : State) (byte : Byte) : State :=
  match s.zbi.transfer with
  | .executing => s
  | .idle | .receiving | .replyReady | .replying | .notAddressed =>
    ((s.setLines { s.zbi.lines.clocked with inTransfer := true }).address byte).driveNext

/-- What reaches the part on the zone bus (R159, R161, R162, R163) and on SHEDn (R150). -/
def pinEvent (s : State) : PinEvent → State
  | .address byte => s.addressWhole byte
  | .byte value => s.byteWritten value
  | .lines zcl zda => s.linesChange zcl zda
  | .released => s.releaseClock
  | .shedn high => s.shednLevel high

/-- While RSTn holds the part in reset nothing at these pins acts; they carry what others drive (R144, R150, R160). -/
def pinWhileHeld (s : State) : PinEvent → State
  | .lines zcl zda => s.driven zcl zda
  | .shedn high => s.shednLevel high
  | .address _ | .byte _ | .released => s

end State

/-- A request's bytes after its address byte, with the check byte that makes it sound (section 9.3), received one by one. -/
def request (code source : Byte) (p : List Byte) (s : State) : Host.Outcome State Fault Refusal :=
  unlessHeld (fun s => s.bytesWritten (requestBytes (s.zbi.address.getD 0) source code p)) s

/-! ## Meanings -/

/-- A START or repeated START and its address byte, or another event at the pins (R150, R159, R161, R163). -/
def execAddressByte (event : PinEvent) (s : State) : Host.Outcome State Fault Refusal :=
  .next (if s.fsc.resetHeld then s.pinWhileHeld event else s.pinEvent event)

/-- The bytes of a request that is not acknowledged to its end, received one by one (R162). -/
def execRequestDiscarded (source code length : Byte) (p : List Byte) (check : Byte) (s : State) :
    Host.Outcome State Fault Refusal :=
  unlessHeld (fun s => s.bytesWritten (source :: code :: length :: (p ++ [check]))) s

/-- A STOP (R164, R170, R158). -/
def execStop (s : State) : Host.Outcome State Fault Refusal := unlessHeld State.stopWhole s

/-- The clock-low timeout (R166). -/
def execClockLowTimeout (s : State) : Host.Outcome State Fault Refusal := unlessHeld State.clockLow s

/-- The master reads bytes of the reply (R164). -/
def execReplyRead (n : Nat) (ackLast : Bool) (s : State) : Host.Outcome State Fault Refusal :=
  unlessHeld (fun s => s.readWhole n ackLast) s

end Sys2Proof.Machine
end

