-- ==== Sys2Proof/Machine/RequestRows.lean ====
section
/-! DEFINITION. The request rows of the table: each is the bytes of its request after the address byte, received one by one (R162),
and taken where its check byte is acknowledged (R163). Their owners are in the files of the requests' own chapters. -/

namespace Sys2Proof.Machine

/-- SET TARGET (R64 to R70, R82). -/
def execSetTarget (source : Byte) (p : List Byte) (s : State) : Host.Outcome State Fault Refusal :=
  request (Request.code .setTarget) source p s

/-- SET FIXED (R64 to R70, R82). -/
def execSetFixed (source : Byte) (p : List Byte) (s : State) : Host.Outcome State Fault Refusal :=
  request (Request.code .setFixed) source p s

/-- SET CAP (R64 to R71). -/
def execSetCap (source : Byte) (p : List Byte) (s : State) : Host.Outcome State Fault Refusal :=
  request (Request.code .setCap) source p s

/-- RELEASE (R72). -/
def execRelease (source : Byte) (p : List Byte) (s : State) : Host.Outcome State Fault Refusal :=
  request (Request.code .release) source p s

/-- RELEASE OWN (R73). -/
def execReleaseOwn (source : Byte) (p : List Byte) (s : State) : Host.Outcome State Fault Refusal :=
  request (Request.code .releaseOwn) source p s

/-- RELEASE SLOT (R74). -/
def execReleaseSlot (source : Byte) (p : List Byte) (s : State) : Host.Outcome State Fault Refusal :=
  request (Request.code .releaseSlot) source p s

/-- BLIND STEP (R52). -/
def execBlindStep (source : Byte) (p : List Byte) (s : State) : Host.Outcome State Fault Refusal :=
  request (Request.code .blindStep) source p s

/-- READ CELLS (R172). -/
def execReadCells (source : Byte) (p : List Byte) (s : State) : Host.Outcome State Fault Refusal :=
  request (Request.code .readCells) source p s

/-- READ SECTIONS (R59, R173). -/
def execReadSections (source : Byte) (p : List Byte) (s : State) : Host.Outcome State Fault Refusal :=
  request (Request.code .readSections) source p s

/-- READ REQUESTS (R83). -/
def execReadRequests (source : Byte) (p : List Byte) (s : State) : Host.Outcome State Fault Refusal :=
  request (Request.code .readRequests) source p s

/-- READ STATUS (R174). -/
def execReadStatus (source : Byte) (p : List Byte) (s : State) : Host.Outcome State Fault Refusal :=
  request (Request.code .readStatus) source p s

/-- READ SENSORS (R173). -/
def execReadSensors (source : Byte) (p : List Byte) (s : State) : Host.Outcome State Fault Refusal :=
  request (Request.code .readSensors) source p s

/-- CLEAR SHORTFALL (R104). -/
def execClearShortfall (source : Byte) (p : List Byte) (s : State) : Host.Outcome State Fault Refusal :=
  request (Request.code .clearShortfall) source p s

/-- WRITE CELL FIELD (R11 to R14). -/
def execWriteCellField (source : Byte) (p : List Byte) (s : State) : Host.Outcome State Fault Refusal :=
  request (Request.code .writeCellField) source p s

/-- WRITE ROW (R15, R16). -/
def execWriteRow (source : Byte) (p : List Byte) (s : State) : Host.Outcome State Fault Refusal :=
  request (Request.code .writeRow) source p s

/-- CAL APPLY (R21). -/
def execCalApply (source : Byte) (p : List Byte) (s : State) : Host.Outcome State Fault Refusal :=
  request (Request.code .calApply) source p s

/-- WRITE MASTER SLOT (R169, R77). -/
def execWriteMasterSlot (source : Byte) (p : List Byte) (s : State) : Host.Outcome State Fault Refusal :=
  request (Request.code .writeMasterSlot) source p s

/-- WRITE BLIND TABLE (R56). -/
def execWriteBlindTable (source : Byte) (p : List Byte) (s : State) : Host.Outcome State Fault Refusal :=
  request (Request.code .writeBlindTable) source p s

/-- WRITE PROFILE (R108). -/
def execWriteProfile (source : Byte) (p : List Byte) (s : State) : Host.Outcome State Fault Refusal :=
  request (Request.code .writeProfile) source p s

/-- WRITE SENSOR (R36, R37, R47). -/
def execWriteSensor (source : Byte) (p : List Byte) (s : State) : Host.Outcome State Fault Refusal :=
  request (Request.code .writeSensor) source p s

/-- WRITE LINKS (R24, R25). -/
def execWriteLinks (source : Byte) (p : List Byte) (s : State) : Host.Outcome State Fault Refusal :=
  request (Request.code .writeLinks) source p s

/-- WRITE PART (R170). -/
def execWritePart (source : Byte) (p : List Byte) (s : State) : Host.Outcome State Fault Refusal :=
  request (Request.code .writePart) source p s

/-- SAVE SETTINGS (R155). -/
def execSaveSettings (source : Byte) (p : List Byte) (s : State) : Host.Outcome State Fault Refusal :=
  request (Request.code .saveSettings) source p s

/-- RESTART (R158). -/
def execRestart (source : Byte) (p : List Byte) (s : State) : Host.Outcome State Fault Refusal :=
  request (Request.code .restart) source p s

/-- NIGHT (R148). -/
def execNight (source : Byte) (p : List Byte) (s : State) : Host.Outcome State Fault Refusal :=
  request (Request.code .night) source p s

/-- DAY (R149). -/
def execDay (source : Byte) (p : List Byte) (s : State) : Host.Outcome State Fault Refusal :=
  request (Request.code .day) source p s

/-- SHED (R152). -/
def execShed (source : Byte) (p : List Byte) (s : State) : Host.Outcome State Fault Refusal :=
  request (Request.code .shed) source p s

/-- SHED CLEAR (R153). -/
def execShedClear (source : Byte) (p : List Byte) (s : State) : Host.Outcome State Fault Refusal :=
  request (Request.code .shedClear) source p s

/-- A request whose code the catalogue does not name (R163). -/
def execRequestWithUnknownCode (code source : Byte) (p : List Byte) (s : State) : Host.Outcome State Fault Refusal :=
  request code source p s

end Sys2Proof.Machine
end

