-- ==== Sys2Proof/Machine/ResetEvents.lean ====
section
/-! DEFINITION. Reset and start-up (sections 8.1 and 8.2): POWER_ON, RSTN_LOW, RSTN_RELEASE and LOAD_COMPLETE. -/

namespace Sys2Proof.Machine

namespace State

/-- RSTn released: STARTING begins, with the settings load (R144, R145). -/
def releaseReset (s : State) : State := if s.fsc.resetHeld then s.fullReset else s

/-- The settings load under way completes (R145). -/
def loadDone (s : State) : State :=
  match s.sst.loading with
  | none => s
  | some _ => s.finishLoad

end State

/-- The supply becomes good (R144): a full reset, and STARTING begins. -/
def execPowerOn (s : State) : Host.Outcome State Fault Refusal := .next s.fullReset

/-- RSTn is low (R144): every block is held at its reset values. -/
def execRstnLow (s : State) : Host.Outcome State Fault Refusal := .next s.holdReset

/-- RSTn is released (R144). -/
def execRstnRelease (s : State) : Host.Outcome State Fault Refusal := .next s.releaseReset

/-- The settings load completes (R145). -/
def execLoadComplete (s : State) : Host.Outcome State Fault Refusal := unlessHeld State.loadDone s

end Sys2Proof.Machine
end

