-- ==== Sys2Proof/Machine/SensorEvents.lean ====
section
/-! DEFINITION. The events of the sensor links (chapter 2): POLL_TIMER, SENSOR_REPLY, NO_REPLY and HEALTH_TIMEOUT. -/

namespace Sys2Proof.Machine

/-- A link's poll timer expires, or its receive line changes its level, in reset too (R26, R27, R144). -/
def execPollTimer (link : Fin 4) (event : PollEvent) (s : State) : Host.Outcome State Fault Refusal :=
  .next (if s.fsc.resetHeld then s.pollWhileHeld link event else s.pollEvent link event)

/-- A complete reply on a link (R28 to R30, R32, R33). -/
def execSensorReply (link : Fin 4) (valueHigh valueLow check : RxChar) (s : State) : Host.Outcome State Fault Refusal :=
  unlessHeld (fun s => s.replyOn link valueHigh valueLow check) s

/-- A limit of R28 runs out for the poll in flight on a link. -/
def execNoReply (link : Fin 4) (s : State) : Host.Outcome State Fault Refusal :=
  unlessHeld (fun s => s.noReplyOn link) s

/-- A health limit of a sensor runs out (R34). -/
def execHealthTimeout (sensor : Fin 16) (s : State) : Host.Outcome State Fault Refusal :=
  unlessHeld (fun s => s.healthLimit sensor) s

end Sys2Proof.Machine
end

