-- ==== Sys2Proof/Machine/Dispatch.lean ====
section
/-! DEFINITION. One arm per row of spec/opcode_table.json, each a direct call of the row's meaning. -/

namespace Sys2Proof.Machine

def exec (i : Instr) (s : State) : Host.Outcome State Fault Refusal :=
  match i with
  | .powerOn => Sys2Proof.Machine.execPowerOn s
  | .rstnLow => Sys2Proof.Machine.execRstnLow s
  | .rstnRelease => Sys2Proof.Machine.execRstnRelease s
  | .loadComplete => Sys2Proof.Machine.execLoadComplete s
  | .shednAsserted => Sys2Proof.Machine.execShednAsserted s
  | .shednReleased => Sys2Proof.Machine.execShednReleased s
  | .addressByte byte => Sys2Proof.Machine.execAddressByte byte s
  | .requestDiscarded source code length payload check => Sys2Proof.Machine.execRequestDiscarded source code length payload check s
  | .stop => Sys2Proof.Machine.execStop s
  | .clockLowTimeout => Sys2Proof.Machine.execClockLowTimeout s
  | .replyRead bytes ackLast => Sys2Proof.Machine.execReplyRead bytes ackLast s
  | .setTarget source payload => Sys2Proof.Machine.execSetTarget source payload s
  | .setFixed source payload => Sys2Proof.Machine.execSetFixed source payload s
  | .setCap source payload => Sys2Proof.Machine.execSetCap source payload s
  | .release source payload => Sys2Proof.Machine.execRelease source payload s
  | .releaseOwn source payload => Sys2Proof.Machine.execReleaseOwn source payload s
  | .releaseSlot source payload => Sys2Proof.Machine.execReleaseSlot source payload s
  | .blindStep source payload => Sys2Proof.Machine.execBlindStep source payload s
  | .readCells source payload => Sys2Proof.Machine.execReadCells source payload s
  | .readSections source payload => Sys2Proof.Machine.execReadSections source payload s
  | .readRequests source payload => Sys2Proof.Machine.execReadRequests source payload s
  | .readStatus source payload => Sys2Proof.Machine.execReadStatus source payload s
  | .readSensors source payload => Sys2Proof.Machine.execReadSensors source payload s
  | .clearShortfall source payload => Sys2Proof.Machine.execClearShortfall source payload s
  | .writeCellField source payload => Sys2Proof.Machine.execWriteCellField source payload s
  | .writeRow source payload => Sys2Proof.Machine.execWriteRow source payload s
  | .calApply source payload => Sys2Proof.Machine.execCalApply source payload s
  | .writeMasterSlot source payload => Sys2Proof.Machine.execWriteMasterSlot source payload s
  | .writeBlindTable source payload => Sys2Proof.Machine.execWriteBlindTable source payload s
  | .writeProfile source payload => Sys2Proof.Machine.execWriteProfile source payload s
  | .writeSensor source payload => Sys2Proof.Machine.execWriteSensor source payload s
  | .writeLinks source payload => Sys2Proof.Machine.execWriteLinks source payload s
  | .writePart source payload => Sys2Proof.Machine.execWritePart source payload s
  | .saveSettings source payload => Sys2Proof.Machine.execSaveSettings source payload s
  | .saveComplete => Sys2Proof.Machine.execSaveComplete s
  | .restart source payload => Sys2Proof.Machine.execRestart source payload s
  | .night source payload => Sys2Proof.Machine.execNight source payload s
  | .day source payload => Sys2Proof.Machine.execDay source payload s
  | .shed source payload => Sys2Proof.Machine.execShed source payload s
  | .shedClear source payload => Sys2Proof.Machine.execShedClear source payload s
  | .pollTimer link event => Sys2Proof.Machine.execPollTimer link event s
  | .sensorReply link valueHigh valueLow check => Sys2Proof.Machine.execSensorReply link valueHigh valueLow check s
  | .noReply link => Sys2Proof.Machine.execNoReply link s
  | .healthTimeout sensor => Sys2Proof.Machine.execHealthTimeout sensor s
  | .dleOneSecondTimer => Sys2Proof.Machine.execDleOneSecondTimer s
  | .rluOneSecondTimer => Sys2Proof.Machine.execRluOneSecondTimer s
  | .freezeTimerExpiry row => Sys2Proof.Machine.execFreezeTimerExpiry row s
  | .fadeEvent => Sys2Proof.Machine.execFadeEvent s
  | .initGroupComplete => Sys2Proof.Machine.execInitGroupComplete s
  | .burstComplete => Sys2Proof.Machine.execBurstComplete s
  | .allTouchComplete => Sys2Proof.Machine.execAllTouchComplete s
  | .shedFrameComplete => Sys2Proof.Machine.execShedFrameComplete s
  | .cutFrameComplete => Sys2Proof.Machine.execCutFrameComplete s
  | .rowDue row => Sys2Proof.Machine.execRowDue row s
  | .reInitTimer => Sys2Proof.Machine.execReInitTimer s
  | .requestWithUnknownCode code source payload => Sys2Proof.Machine.execRequestWithUnknownCode code source payload s

end Sys2Proof.Machine
end

