-- ==== Sys2Proof/Machine/Clock.lean ====
section
/-! DEFINITION. The part's own clock: one tick of 8 µs, which the part spends whenever no command waits (log 4). Every count of
time that the spec gives grows by a tick, and then the rows whose time has come happen, each as `exec` does it. The order of those
that fall on one tick is the model's choice among the orders the rules allow. -/

namespace Sys2Proof.Machine

/-- A sensor record one tick later (R31): the time stands still in STANDBY and before the load, while absent, and at 6553.5 s. -/
def Sensor.tick (polling : Bool) (r : Sensor) : Sensor :=
  if polling && r.present then { r with since := min (r.since + 1) Timing.sinceLimit } else r

/-- A freeze state one tick later (R17, R19). -/
def Freeze.tick : Freeze → Freeze
  | .live => .live
  | .frozen left => .frozen (left - 1)

/-- A receive line one tick later (R27). -/
def RxLine.tick (r : RxLine) : RxLine := { character := r.character.map (· + 1), low := r.low.map (· + 1) }

/-- The lines of the zone bus one tick later (R163, R166). -/
def BusLines.tick (l : BusLines) : BusLines := { l with hold := l.hold.map (· + 1), low := l.low.map (· + 1) }

/-- The FSC one tick later (R150). -/
def Floor.tick (f : Floor) : Floor := { f with steady := min (f.steady + 1) Timing.qualify }

/-- The row that makes SHEDn's level the observed state, once the level has stood for 1 ms (R150). -/
def Floor.qualified (f : Floor) : Option Instr :=
  if Timing.qualify ≤ f.steady ∧ f.lineAsserted = f.shedn then some (if f.shedn then .shednReleased else .shednAsserted) else none

/-- A running count has reached its period. -/
def reached (count : Option Nat) (period : Nat) : Bool := count.any fun n => decide (period ≤ n)

/-- The row that completes a flight. -/
def Flight.completion (f : Flight) : Instr :=
  if f.cut then .cutFrameComplete
  else
    match f.frame with
    | .initGroup => .initGroupComplete
    | .burst _ _ _ => .burstComplete
    | .allTouch => .allTouchComplete
    | .shed _ => .shedFrameComplete

namespace State

/-- Every count of time one tick later. -/
def advance (s : State) : State :=
  { s with
    ct := { s.ct with rows := s.ct.rows.map fun r => { r with freeze := r.freeze.tick } },
    slu := { s.slu with
      sensors := s.slu.sensors.map (Sensor.tick s.slu.polling),
      timers := s.slu.timers.map (Option.map (· + 1)),
      inFlight := s.slu.inFlight.map (Option.map fun p => { p with elapsed := p.elapsed + 1 }),
      lines := s.slu.lines.map RxLine.tick },
    dle := { s.dle with timer := s.dle.timer.map (· + 1) },
    rlu := { s.rlu with timer := s.rlu.timer.map (· + 1) },
    fdu := { s.fdu with timer := s.fdu.timer.map (· + 1) },
    llc := { s.llc with
      ages := if s.llc.state = .run then s.llc.ages.map (Option.map (· + 1)) else s.llc.ages,
      reInit := s.llc.reInit.map (· + 1),
      flight := s.llc.flight.map fun f => { f with elapsed := f.elapsed + 1 } },
    fsc := s.fsc.tick,
    sst := { s.sst with
      saving := s.sst.saving.map fun v => { v with elapsed := v.elapsed + 1 },
      loading := s.sst.loading.map (· + 1) },
    zbi := { s.zbi with lines := s.zbi.lines.tick } }

/-- A sensor's health limit has been reached; the limits stand still while polling is disabled (R34, R38). -/
def healthDue (s : State) (i : Fin 16) : Bool :=
  s.slu.polling && (Sensor.limit (s.slu.sensors.get i).health).any fun n => decide (n ≤ (s.slu.sensors.get i).since)

/-- A row has been due since this tick or before, with the link in RUN (R132, R134). -/
def ageDue (s : State) (r : Fin 8) : Bool := decide (s.llc.state = .run) && (s.dueAge r).isSome

/-- The rows whose time has come, in the order in which the model takes them: the load and the save (R145, R156), SHEDn qualified
(R150), the end of the part's hold on ZCL (R163), a stretch of ZCL low that reaches 25 ms (R166), the one-second timers (R75, R53),
the freeze timers (R20), the sensor links (R34, R28, R26), the re-init timer (R139), due rows (R134), the fade timer (R110) and the
frame in flight (R122). -/
def dueNow (s : State) : List Instr :=
  (if reached s.sst.loading Timing.load then [.loadComplete] else []) ++
  (if reached (s.sst.saving.map Saving.elapsed) Timing.save then [.saveComplete] else []) ++
  s.fsc.qualified.toList ++
  (if reached s.zbi.lines.hold Timing.clockHold then [.addressByte .released] else []) ++
  (if s.zbi.lines.low = some Timing.clockLow then [.clockLowTimeout] else []) ++
  (if reached s.rlu.timer Timing.second then [.rluOneSecondTimer] else []) ++
  (if reached s.dle.timer Timing.second then [.dleOneSecondTimer] else []) ++
  ((List.finRange 8).filter fun r => decide ((s.ct.rows.get r).freeze = .frozen 0)).map .freezeTimerExpiry ++
  ((List.finRange 16).filter s.healthDue).map .healthTimeout ++
  ((List.finRange 4).filter s.pollLapsed).map .noReply ++
  ((List.finRange 4).filter fun l => reached (s.slu.timers.get l) Timing.poll).map (.pollTimer · .expires) ++
  (if reached s.llc.reInit Timing.reInit then [.reInitTimer] else []) ++
  ((List.finRange 8).filter s.ageDue).map .rowDue ++
  (if reached s.fdu.timer Timing.fade then [.fadeEvent] else []) ++
  ((s.llc.flight.filter fun f => decide (f.ends ≤ f.elapsed)).map Flight.completion).toList

/-- A row of the table happens: the next state that `exec` answers. -/
def happen (s : State) (c : Instr) : State :=
  match exec c s with
  | .next t => t
  | .fault _ | .refused _ => s

/-- One tick of the part (log 4); time does not count while RSTn holds it in reset (R144). -/
def tick (s : State) : State :=
  if s.fsc.resetHeld then s else s.advance.dueNow.foldl happen s.advance

end State

end Sys2Proof.Machine
end

