-- ==== Sys2Proof/Machine/Partners.lean ====
section
/-! DEFINITION. The partners on the part's other two links, as the part relies on them: a luminaire driver (R123) and a
photosensor (the sensor's side of R28). They are no state of the part and no step of it reads them; statements about the
frames the part sends and the replies it judges are made against them. -/

namespace Sys2Proof.Machine

/-! ## A luminaire driver (R123) -/

/-- The frame a driver has open, with the values of the data characters received in it so far. -/
inductive DriverFrame where
  | closed
  /-- A burst; `own` when its ROW OPEN named the driver's row. -/
  | burst (own : Bool) (data : List Nat)
  | shed (data : List Nat)
  deriving DecidableEq, Repr

/-- A luminaire driver. -/
structure Driver where
  row : Fin 8
  bay : Fin 32
  /-- The driver's own failsafe level. -/
  failsafe : Nat
  /-- The level its lamp runs at. -/
  applied : Nat
  /-- Consecutive INIT characters since its power-up. -/
  inits : Nat
  /-- It has joined the link: it has seen 8 INIT characters with no other between them. -/
  joined : Bool
  frame : DriverFrame
  /-- Ticks since its failsafe window was last restarted. -/
  window : Nat
  deriving DecidableEq, Repr

namespace Driver

/-- The ticks of the failsafe window, 2.5 s. -/
def windowEnd : Nat := Timing.ticksOfMs 2500

/-- The check of a frame's data characters matches: they sum to 0 modulo 256 (R176). -/
def checks (data : List Nat) : Bool := decide (data.foldl (· + ·) 0 % 256 = 0)

/-- The 16-bit value at data characters `i` and `i + 1`. -/
def levelAt (data : List Nat) (i : Nat) : Nat := data.getD i 0 * 256 + data.getD (i + 1) 0

/-- The level a burst's data characters give a bay, if the range they state reaches it. -/
def levelFor (bay : Nat) (data : List Nat) : Option Nat :=
  let first := data.getD 0 0
  if first ≤ bay ∧ bay < first + data.getD 1 0 then some (levelAt data (2 + 2 * (bay - first))) else none

/-- A TAKE that closes the open frame. -/
def take (d : Driver) : Driver :=
  match d.frame with
  | .closed => d
  | .burst own data =>
    { d with
      frame := .closed,
      window := if own then 0 else d.window,
      applied := if own && checks data then (levelFor d.bay.val data).getD d.applied else d.applied }
  | .shed data =>
    { d with
      frame := .closed, window := 0,
      applied := if checks data then min d.applied (levelAt data (2 * d.row.val)) else d.applied }

/-- A control character of a joined driver: it closes an open frame, and acts. -/
def control (d : Driver) (low : Nat) : Driver :=
  if low = 0x20 then d.take
  else if low = 0x30 then { d with frame := .closed, window := 0 }
  else if low = 0x40 then { d with frame := .shed [] }
  else if 0x10 ≤ low ∧ low ≤ 0x17 then { d with frame := .burst (decide (low - 0x10 = d.row.val)) [] }
  else { d with frame := .closed }

/-- A data character of a joined driver. -/
def dataValue (d : Driver) (value : Nat) : Driver :=
  match d.frame with
  | .closed => d
  | .burst own data => { d with frame := .burst own (data ++ [value]) }
  | .shed data => { d with frame := .shed (data ++ [value]) }

/-- One received character. A driver that has not joined only counts INIT characters. -/
def receive (d : Driver) (c : LinkChar) : Driver :=
  let low := c.toNat % 256
  let isInit := decide (c = initChar)
  let counted := { d with
    inits := if isInit then min (d.inits + 1) 8 else 0, joined := d.joined || (isInit && decide (7 ≤ d.inits)) }
  if !d.joined then counted
  else if 256 ≤ c.toNat then counted.control low
  else counted.dataValue low

/-- The characters of a frame, or of the part of one that was sent. -/
def receiveAll (d : Driver) (l : List LinkChar) : Driver := l.foldl receive d

/-- One tick: at the end of its window the driver reverts to its failsafe level. -/
def tick (d : Driver) : Driver :=
  if d.window + 1 < windowEnd then { d with window := d.window + 1 }
  else { d with window := windowEnd, applied := d.failsafe }

end Driver

/-! ## A photosensor (R28, section 11.4) -/

/-- The status a sensor reports. -/
inductive SensorStatus where
  | ok
  | saturated
  | fault
  deriving DecidableEq, Repr

/-- The status bits of the value-high character. -/
def SensorStatus.code : SensorStatus → Nat
  | .ok => 0
  | .saturated => 1
  | .fault => 2

/-- A character as a sensor sends it, `gap` bit times after the one before: even parity and a high stop bit (R23). -/
def sentChar (data : Byte) (gap : Rat := 0) : RxChar := { data, parity := evenParity data, stop := true, gap }

/-- The value-high character of a reading. -/
def valueHigh (count range : Nat) (status : SensorStatus) : Byte :=
  BitVec.ofNat 8 (range * 64 + count / 256 * 4 + status.code)

/-- The value-low character of a reading. -/
def valueLow (count : Nat) : Byte := BitVec.ofNat 8 count

/-- The check character that makes the poll's position and the three reply characters sum to 0 modulo 256 (R28, R176). -/
def replyCheck (position : Fin 4) (high low : Byte) : Byte := checkByte [pollChar position, high, low]

end Sys2Proof.Machine
end

