-- ==== Sys2Proof/Machine/Pins.lean ====
section
/-! DEFINITION. The output pins of the two kinds of link that the part drives, as its state gives them: LDE and LTX of the luminaire
link (R121, R122), and the sensor links' transmit lines (R23, R28, R144). `true` is the high level, and for LDE active. -/

namespace Sys2Proof.Machine

/-- A character of the luminaire link and the inner gap after it (R125). -/
def gapped (c : LinkChar) : List Bool := linkLineBits c ++ List.replicate Timing.gap true

/-- The levels of LTX over a frame, one a tick, from its first start bit; past the last of them the line rests high (R122, R125). -/
def Frame.levels (f : Frame) : List Bool :=
  match f with
  | .initGroup => f.characters.flatMap gapped
  | .burst _ _ _ | .allTouch | .shed _ => f.characters.flatMap linkLineBits

/-- The level of LTX in a flight: its frame's, and high from the end of a cut on (R137). -/
def Flight.level (f : Flight) : Bool :=
  if f.cut && decide (f.ends ≤ f.elapsed + Timing.gap) then true else f.frame.levels.getD f.elapsed true

namespace State

/-- LDE, the line-driver enable: inactive in OFF, active from INIT on (R121). -/
def lde (s : State) : Bool := decide (s.llc.state ≠ .off)

/-- LTX: at rest in OFF and between frames, else the level of the frame in flight (R121, R122). -/
def ltx (s : State) : Bool :=
  match s.llc.state, s.llc.flight with
  | .off, _ | _, none => true
  | _, some f => f.level

/-- A sensor link's transmit line: the one character of the poll in flight, else at rest (R23, R28). A poll that is abandoned while
its character is still on the line (R37, R38) leaves the line at rest at once, the character cut short: DESIGN CHOICE (log 25). -/
def sensorTx (s : State) (l : Fin 4) : Bool :=
  match s.slu.inFlight.get l with
  | none => true
  | some p => (sensorCharBits (pollChar p.position)).getD (24576 * p.elapsed / s.slu.bitUnits l) true

end State

end Sys2Proof.Machine
end

