-- ==== Sys2Proof/Safety.lean ====
section
/-! DEFINITION. What a safe part is, in the terms the statements use: frames over the ten blocks, when a request is taken, and the
invariants of the spec: start-up (R121, R143, R145), master table (R168 to R170), request list (R61, R77, R78, R80), presence
(R5, R6, R106, R124), seeding (R46), dither residues (R94), load shed (R115, R151), the idle link (R133, R134) and the stated
ranges of every record. -/

namespace Sys2Proof.Machine

/-! ## Frames -/

/-- The ten blocks of the part, and the queue of waiting commands. -/
inductive Block where
  | ct
  | slu
  | dle
  | rlu
  | lau
  | fdu
  | llc
  | fsc
  | sst
  | zbi
  | queue
  deriving DecidableEq, Repr

namespace State

/-- A block is the same in two states. -/
def same (s t : State) : Block → Prop
  | .ct => t.ct = s.ct
  | .slu => t.slu = s.slu
  | .dle => t.dle = s.dle
  | .rlu => t.rlu = s.rlu
  | .lau => t.lau = s.lau
  | .fdu => t.fdu = s.fdu
  | .llc => t.llc = s.llc
  | .fsc => t.fsc = s.fsc
  | .sst => t.sst = s.sst
  | .zbi => t.zbi = s.zbi
  | .queue => t.pending = s.pending

/-- Every block but the named ones is unchanged. -/
def keepsBut (s : State) (changed : List Block) (t : State) : Prop := ∀ b, b ∉ changed → s.same t b

/-! ## When a request is taken -/

/-- A request with source byte `source` and payload `p` is taken on the part's own address, and reaches the owner of `k` as slot
`n`'s: the part is not held in reset, it is receiving on its own address with nothing received after the address byte, the payload
fits, and the checks of source, format and class all pass (R161 to R163). -/
structure Takes (s : State) (k : Request) (source : Byte) (p : List Byte) (n : Fin 8) : Prop where
  running : s.fsc.resetHeld = false
  receiving : s.zbi.transfer = .receiving
  address : s.zbi.address = some (writeAddress s.zbi.own)
  begun : s.zbi.request = some [writeAddress s.zbi.own]
  notFloor : writeAddress s.zbi.own ≠ Config.floorCall
  fits : p.length ≤ Config.maxPayload
  sender : s.senderSlot source = some n
  format : k.admits p = true
  klass : k.permits (s.zbi.slots.get n).role = true

/-- A request is taken on the floor call, passes the checks of source, format and class, and is marked as taken there (R167). -/
structure TakesOnFloor (s : State) (k : Request) (source : Byte) (p : List Byte) (n : Fin 8) : Prop where
  running : s.fsc.resetHeld = false
  receiving : s.zbi.transfer = .receiving
  address : s.zbi.address = some Config.floorCall
  begun : s.zbi.request = some [Config.floorCall]
  fits : p.length ≤ Config.maxPayload
  sender : s.senderSlot source = some n
  format : k.admits p = true
  klass : k.permits (s.zbi.slots.get n).role = true
  marked : k.onFloor p = true

/-- The request a request row carries: its catalogue entry, source byte and payload. No other row carries one. -/
def asRequest : Instr → Option (Request × Byte × List Byte)
  | .setTarget a p => some (.setTarget, a, p)
  | .setFixed a p => some (.setFixed, a, p)
  | .setCap a p => some (.setCap, a, p)
  | .release a p => some (.release, a, p)
  | .releaseOwn a p => some (.releaseOwn, a, p)
  | .releaseSlot a p => some (.releaseSlot, a, p)
  | .blindStep a p => some (.blindStep, a, p)
  | .readCells a p => some (.readCells, a, p)
  | .readSections a p => some (.readSections, a, p)
  | .readRequests a p => some (.readRequests, a, p)
  | .readStatus a p => some (.readStatus, a, p)
  | .readSensors a p => some (.readSensors, a, p)
  | .clearShortfall a p => some (.clearShortfall, a, p)
  | .writeCellField a p => some (.writeCellField, a, p)
  | .writeRow a p => some (.writeRow, a, p)
  | .calApply a p => some (.calApply, a, p)
  | .writeMasterSlot a p => some (.writeMasterSlot, a, p)
  | .writeBlindTable a p => some (.writeBlindTable, a, p)
  | .writeProfile a p => some (.writeProfile, a, p)
  | .writeSensor a p => some (.writeSensor, a, p)
  | .writeLinks a p => some (.writeLinks, a, p)
  | .writePart a p => some (.writePart, a, p)
  | .saveSettings a p => some (.saveSettings, a, p)
  | .restart a p => some (.restart, a, p)
  | .night a p => some (.night, a, p)
  | .day a p => some (.day, a, p)
  | .shed a p => some (.shed, a, p)
  | .shedClear a p => some (.shedClear, a, p)
  | .requestWithUnknownCode _ _ _ | .powerOn | .rstnLow | .rstnRelease | .loadComplete | .shednAsserted | .shednReleased
  | .addressByte _ | .requestDiscarded _ _ _ _ _ | .stop | .clockLowTimeout | .replyRead _ _ | .saveComplete
  | .pollTimer _ _ | .sensorReply _ _ _ _ | .noReply _ | .healthTimeout _ | .dleOneSecondTimer | .rluOneSecondTimer
  | .freezeTimerExpiry _ | .fadeEvent | .initGroupComplete | .burstComplete | .allTouchComplete | .shedFrameComplete
  | .cutFrameComplete | .rowDue _ | .reInitTimer => none

/-- The row of the table that sets an entry of a kind. -/
def setCommand : Kind → Byte → List Byte → Instr
  | .target => .setTarget
  | .fixed => .setFixed
  | .cap => .setCap

/-- The catalogue entry that sets an entry of a kind. -/
def setRequest : Kind → Request
  | .target => .setTarget
  | .fixed => .setFixed
  | .cap => .setCap

/-- The lines after whole bytes given as one event: no byte under way, both lines released by the part, and, with ZCL standing low
after them, a new stretch of ZCL low (R159, R166): DESIGN CHOICE (log 15). -/
def afterBytes (l : BusLines) : BusLines :=
  { l with addressing := false, bits := [], pullsZda := false, hold := none, low := if l.zcl = true then none else some 0 }

/-- The Zone Bus Interface after a request on the own address has been answered: the check byte acknowledged, REPLY_READY, and the
reply held with its check (R163, R176). The address and the request received are absent: DESIGN CHOICE (log 27). -/
def repliedWith (z : ZoneBus) (status : Status) (data : List Byte) : ZoneBus :=
  { z with
    transfer := .replyReady, address := none, request := none, acked := true, reply := some (composeReply z.own status data),
    lines := afterBytes z.lines }

/-- The Zone Bus Interface after a request on the floor call: acknowledged, NOT_ADDRESSED, and no reply (R167). -/
def floorDone (z : ZoneBus) : ZoneBus :=
  { z with
    transfer := .notAddressed, address := none, request := none, acked := true, reply := none, lines := afterBytes z.lines }

/-! ## Invariants -/

/-- The moments of start-up (R121, R143, R145): STARTING lasts until the link enters RUN; the link is OFF exactly while the load has
not completed; the timers that start later are stopped; the part is deaf on the zone bus; and nothing is listed, queued or lit. At
every moment a request is being received exactly in RECEIVING, ZCL is held only in EXECUTING, and a stretch of ZCL low is counted only
while ZCL is low and the part does not hold it (R160, R163, R166). -/
structure StartUp (s : State) : Prop where
  starting : s.fsc.part = .starting ↔ s.llc.state ≠ .run
  off : s.llc.state = .off ↔ (s.sst.loading.isSome = true ∨ s.fsc.resetHeld = true)
  held : s.fsc.resetHeld = true → s.sst.loading = none
  fadeTimer : s.fdu.timer.isSome = true ↔ s.llc.state = .run
  reInitTimer : s.llc.reInit.isSome = true ↔ s.llc.state = .run
  listTimer : s.rlu.timer.isSome = true ↔ s.llc.state ≠ .off
  sectionTimer : s.dle.timer.isSome = true ↔ s.llc.state ≠ .off
  polling : s.slu.polling = true ↔ (s.llc.state ≠ .off ∧ s.fsc.part ≠ .standby)
  silent : s.llc.state = .off → s.llc.flight = none
  initGroup : s.llc.state = .init →
    (s.llc.flight.map fun f => (f.frame, f.ends, f.cut)) = some (.initGroup, Timing.frame .initGroup, false)
  receiving : s.zbi.transfer = .receiving ↔ s.zbi.request.isSome = true
  holding : s.zbi.lines.hold.isSome = true → s.zbi.transfer = .executing
  stretch : s.zbi.lines.low.isSome = true → s.zbi.lines.zcl = false ∧ s.zbi.lines.hold = none ∧ s.fsc.resetHeld = false
  deaf : s.fsc.part = .starting → s.zbi.transfer = .idle ∨ s.zbi.transfer = .notAddressed
  noPending : s.fsc.part = .starting → s.zbi.pendingOwn = none ∧ s.zbi.reply = none
  noEntries : s.fsc.part = .starting → s.rlu.list = []
  noRows : s.fsc.part = .starting → s.llc.queue = []
  dark : s.fsc.part = .starting →
    ∀ c : Fin 256, s.fdu.levels.get c = none ∧ s.llc.taken.get c = none ∧ s.lau.cells.get c = .cleared

/-- The master table and the own address (R168 to R170): at least one COMMISSIONING slot; no address twice; EMPTY slots as R169
stores them; and neither the own address nor a pending one is a master's. -/
structure Masters (s : State) : Prop where
  commissioning : ∃ n : Fin 8, (s.zbi.slots.get n).role = .commissioning
  distinct : ∀ m n : Fin 8, m ≠ n → (s.zbi.slots.get m).role ≠ .empty → (s.zbi.slots.get n).role ≠ .empty →
    (s.zbi.slots.get m).address ≠ (s.zbi.slots.get n).address
  vacant : ∀ n : Fin 8, (s.zbi.slots.get n).role = .empty → s.zbi.slots.get n = .vacant
  own : addressOk s.zbi.own = true
  pendingOwn : s.zbi.pendingOwn.all addressOk = true
  ownFree : ∀ n : Fin 8, (s.zbi.slots.get n).role ≠ .empty → (s.zbi.slots.get n).address ≠ s.zbi.own
  pendingFree : ∀ n : Fin 8, (s.zbi.slots.get n).role ≠ .empty → some (s.zbi.slots.get n).address ≠ s.zbi.pendingOwn

/-- The request list (R61, R77, R78, R80): at most 48 entries, no key twice, every entry tied to a live slot at its priority, every
coverage count and every resolved record in agreement with the list and the grid. -/
structure Listed (s : State) : Prop where
  room : s.rlu.list.length ≤ Config.listCapacity
  keys : s.rlu.list.Pairwise fun e f => e.sameKey f = false
  tied : ∀ e ∈ s.rlu.list, (s.zbi.slots.get e.slot).role ≠ .empty ∧ e.priority = (s.zbi.slots.get e.slot).priority
  counts : ∀ e ∈ s.rlu.list, e.coverage = s.ct.coverage e.selector
  records : ∀ c : Fin 256, s.rlu.resolved.get c = resolve s.ct s.rlu.list c

/-- Presence and what follows it (R5, R6, R87, R106, R124, R131): an absent cell holds no level and a cleared LAU record; a held base
stands exactly for the present cells of a FROZEN row; from the load on a row has an age exactly while it is configured; and only
configured rows are queued, none twice. -/
structure Fitted (s : State) : Prop where
  levels : ∀ c : Fin 256, s.ct.present c = false → s.fdu.levels.get c = none
  taken : ∀ c : Fin 256, s.ct.present c = false → s.llc.taken.get c = none
  records : ∀ c : Fin 256, s.ct.present c = false → s.lau.cells.get c = .cleared
  held : ∀ c : Fin 256, (s.ct.held.get c).isSome = true ↔ (s.ct.present c = true ∧ s.ct.frozenCell c = true)
  ages : s.llc.state ≠ .off → ∀ r : Fin 8, (s.llc.ages.get r).isSome = true ↔ s.ct.configured r = true
  queued : ∀ r ∈ s.llc.queue, s.ct.configured r = true
  once : s.llc.queue.Nodup

/-- A value that may be absent is within a limit. -/
abbrev within (limit : Nat) (v : Option Nat) : Prop := v.getD 0 ≤ limit

/-- A level of SHEDn that has stood for 1 ms is the observed state (R150); while the SHEDn line is asserted the latch is set (R151);
and while the latch is set every present fade level is at most its row's shed level (R115). -/
structure Shed (s : State) : Prop where
  steady : s.fsc.steady ≤ 125
  observed : s.fsc.steady = 125 → s.fsc.lineAsserted = !s.fsc.shedn
  line : s.fsc.lineAsserted = true → s.fsc.latch = true
  levels : s.fsc.latch = true → ∀ c : Fin 256, s.ct.present c = true → within (s.ct.shedLevelOf c) (s.fdu.levels.get c)

/-- A section is seeded exactly while its sensor is FRESH or STALE (R46). -/
def Seeded (s : State) : Prop := ∀ i : Fin 16, (s.dle.sections.get i).seeded = s.usable i

/-- A sensor is ABSENT exactly while its present flag reads no (R31). -/
def Sensed (s : State) : Prop := ∀ i : Fin 16, (s.slu.sensors.get i).health = .absent ↔ (s.slu.sensors.get i).present = false

/-- Every residue lies in 0..15, and is 0 unless the quantiser mode is DITHER (R94). -/
def Dithered (s : State) : Prop :=
  ∀ c : Fin 256, (s.lau.cells.get c).residue ≤ 15 ∧ (s.lau.mode ≠ .dither → (s.lau.cells.get c).residue = 0)

/-- The link in RUN is idle only with no SHED, no INIT group and no lowered interval pending, and no row due (R133, R134). -/
def Rested (s : State) : Prop :=
  s.llc.state = .run → s.llc.flight = none →
    s.llc.pendingShed = false ∧ s.llc.pendingInit = false ∧ s.llc.pendingInterval = none ∧ s.dueRow = none

/-- The request list after a change: the new list, every cell's record resolved from it, and the one-second timer as it was. -/
def relisted (s t : State) (list : List Entry) : Prop :=
  t.rlu.list = list ∧ t.rlu.timer = s.rlu.timer ∧ ∀ c : Fin 256, t.rlu.resolved.get c = resolve s.ct list c

/-- The status of the reply a state holds. -/
def repliedStatus (s : State) : Option Status := s.zbi.reply.map Reply.status

/-- What follows at once, in the Fade Unit and on the link, when the shed latch becomes set (R115, R136, R137): the clamp of every
present fade level; and the pending-shed flag, with the SHED frame started on an idle link, and a BURST or INIT group in flight cut
until its closing character has been sent. -/
structure ShedFollows (s t : State) : Prop where
  levels : ∀ c : Fin 256, t.fdu.levels.get c =
    if s.ct.present c = true then (s.fdu.levels.get c).map fun v => min v (s.ct.shedLevelOf c) else s.fdu.levels.get c
  profiles : t.fdu.profiles = s.fdu.profiles
  fadeTimer : t.fdu.timer = s.fdu.timer
  early : s.llc.state ≠ .run → t.llc = { s.llc with pendingShed := true }
  idle : s.llc.state = .run → s.llc.flight = none →
    t.llc = { s.llc with
      pendingShed := false, flight := some ⟨.shed (s.ct.rows.map RowRecord.shedLevel), 0, 21 * 11, false⟩ }
  cut : s.llc.state = .run → ∀ f, s.llc.flight = some f → cuttable f = true →
    t.llc = { s.llc with pendingShed := true, flight := some (cutFlight f) }
  uncut : s.llc.state = .run → ∀ f, s.llc.flight = some f → cuttable f = false → t.llc = { s.llc with pendingShed := true }

/-- A row is in hand: in the urgent row queue, or its burst, staged now, in flight. -/
def rowInHand (t : State) (r : Fin 8) : Prop :=
  r ∈ t.llc.queue ∨ ∃ f, t.llc.flight = some f ∧ f.frame = t.stageBurst r ∧ f.cut = false

/-! ### Ranges -/

/-- A remaining hold: 1..65,535 s, or absent (R51, R60). -/
abbrev holdOk (v : Option Nat) : Prop := v ≠ some 0 ∧ within 65535 v

/-- A refresh interval: 200..2000 ms, a multiple of 100 (R124). -/
abbrev intervalOk (v : Nat) : Prop := 200 ≤ v ∧ v ≤ 2000 ∧ v % 100 = 0

/-- The ranges of a calibration record (R2). -/
abbrev calibrationOk (k : Calibration) : Prop := 1 ≤ k.efficacy ∧ k.efficacy ≤ 4000 ∧ k.floor ≤ 1000 ∧ k.target ≤ 2000

/-- The ticks left on a freeze timer; 0 for a LIVE row. -/
def freezeLeft : Freeze → Nat
  | .live => 0
  | .frozen left => left

/-- The ranges of a row record, freeze time included (R6, R17). -/
abbrev rowOk (r : RowRecord) : Prop := r.daylightFactor ≤ 10000 ∧ r.shedLevel ≤ 1000 ∧ freezeLeft r.freeze ≤ Timing.freeze

/-- The ranges of the link settings, and the slowest bit rate they may give, 2400 bit/s (R22). -/
abbrev linksOk (w : LinkSettings) : Prop :=
  w.n0 ≤ 11 ∧ w.n1 ≤ 11 ∧ ∀ l : Fin 4, 4 ≤ (w.links.get l).divisor ∧ (w.links.get l).divisor ≤ 255 ∧
    2400 * (w.links.get l).divisor ≤ clockHz (selectedN w.n0 w.n1 (w.links.get l).select)

/-- The ranges of a valid sample, and its lux value (R30, R31). -/
abbrev sampleOk (x : Sample) : Prop := x.count ≤ 4095 ∧ x.range ≤ 3 ∧ x.lux = x.count * 4 ^ x.range

/-- The ranges of a sensor record (R31); the run count is nonzero only in RECOVERING. -/
abbrev sensorOk (r : Sensor) : Prop :=
  r.errors ≤ 8 ∧ r.since ≤ Timing.sinceLimit ∧ r.run ≤ 4 ∧ (r.health ≠ .recovering → r.run = 0) ∧ ∀ x ∈ r.sample, sampleOk x

/-- The ranges of a section record (R41, R51); an UNKNOWN step carries no hold. -/
abbrev sectionOk (c : Section) : Prop :=
  within 262080 c.filtered ∧ c.shift ≤ 7 ∧ holdOk c.hold ∧ (c.step = none → c.hold = none)

/-- The ranges of an entry (R60). -/
abbrev entryOk (e : Entry) : Prop := e.value ≤ e.kind.limit ∧ holdOk e.hold ∧ e.selector.malformed = false

/-- The range of a winner's value (R78). -/
def winnerOk : Winner → Prop
  | .base => True
  | .target _ _ lux => lux ≤ 2000
  | .fixed _ _ level => level ≤ 1000

/-- The ranges of a resolved record (R78). -/
abbrev resolvedOk (z : Resolved) : Prop := within 1000 z.cap ∧ winnerOk z.winner

/-- The ranges of an LAU record (R85). -/
abbrev lauOk (r : LauCell) : Prop := within 1000 r.lastBase ∧ within 1000 r.lastGoal ∧ within 65535 r.lastDaylight

/-- The ranges of a flight's staged levels (R126, R128). -/
def flightOk (f : Flight) : Prop :=
  match f.frame with
  | .burst _ _ bays => ∀ b ∈ bays, b.level ≤ 1000
  | .shed levels => ∀ r : Fin 8, levels.get r ≤ 1000
  | .initGroup | .allTouch => True

/-- The Cell Table in its stated ranges. -/
structure CtRanges (t : CellTable) : Prop where
  cells : ∀ c : Fin 256, calibrationOk (t.cells.get c)
  rows : ∀ r : Fin 8, rowOk (t.rows.get r)
  held : ∀ c : Fin 256, within 1000 (t.held.get c)

/-- The sensor side in its stated ranges: SLU and DLE. -/
structure SensorRanges (s : State) : Prop where
  links : linksOk s.slu.settings
  sensors : ∀ i : Fin 16, sensorOk (s.slu.sensors.get i)
  sections : ∀ i : Fin 16, sectionOk (s.dle.sections.get i)
  attenuation : ∀ p : Fin 16, s.dle.attenuation.get p ≤ 256

/-- The request list and the resolved records in their stated ranges. -/
structure ListRanges (u : Requests) : Prop where
  entries : ∀ e ∈ u.list, entryOk e
  resolved : ∀ c : Fin 256, resolvedOk (u.resolved.get c)

/-- The levels in their stated ranges: LAU, FDU and LLC. -/
structure LevelRanges (s : State) : Prop where
  lau : ∀ c : Fin 256, lauOk (s.lau.cells.get c)
  fades : ∀ c : Fin 256, within 1000 (s.fdu.levels.get c)
  profiles : ∀ p : Fin 8, 1 ≤ (s.fdu.profiles.get p).up ∧ (s.fdu.profiles.get p).up ≤ 1000 ∧
    1 ≤ (s.fdu.profiles.get p).down ∧ (s.fdu.profiles.get p).down ≤ 1000
  taken : ∀ c : Fin 256, within 1000 (s.llc.taken.get c)
  flight : ∀ f ∈ s.llc.flight, flightOk f
  interval : intervalOk s.llc.interval
  pendingInterval : ∀ v ∈ s.llc.pendingInterval, intervalOk v

/-- Every record in its stated range. -/
structure Ranges (s : State) : Prop where
  ct : CtRanges s.ct
  sensors : SensorRanges s
  list : ListRanges s.rlu
  levels : LevelRanges s

end State

end Sys2Proof.Machine
end

