-- ==== Sys2Proof/Certificates/Slice0/Obligations.lean ====
section
/-! DEFINITION. The statements for the provers. Each is a rule of the spec, or a property of the whole part that several rules give
together; OBLIGATIONS.json says which. -/

open Sys2Proof Sys2Proof.Machine Sys2Proof.Machine.State

/-! ## The step, reset and the queue -/

/-- A step takes the command at the front of the queue: it is `exec` of that command with the rest waiting. -/
def Obligations.StepTakesFrontCommand : Prop :=
  ∀ (c : Instr) (rest : List Instr) (s : State), s.pending = c :: rest → step s = exec c (s.setPending rest)

/-- With no command waiting a step is one 8 µs tick, and nothing at all while RSTn holds the part in reset. A tick adds one to every
running count of time, and then the rows whose time has come happen as `exec` does them: each of the spec's periods and limits,
spelled in ticks. The tick itself, and the order of rows that fall on one tick, are the model's choice (log 4). -/
def Obligations.IdleStepIsOneTick : Prop :=
  (∀ s : State, s.pending = [] →
    (s.fsc.resetHeld = true → step s = .next s) ∧
    (s.fsc.resetHeld = false → step s = .next (s.advance.dueNow.foldl happen s.advance))) ∧
  (∀ (s t : State) (c : Instr), exec c s = .next t → s.happen c = t) ∧
  (∀ s : State,
    let a := s.advance
    let next := fun n : Nat => n + 1
    s.keepsBut [.ct, .slu, .dle, .rlu, .fdu, .llc, .fsc, .sst, .zbi] a ∧
    a.fsc = { s.fsc with steady := min (s.fsc.steady + 1) 125 } ∧
    a.ct.cells = s.ct.cells ∧ a.ct.held = s.ct.held ∧
    (∀ r : Fin 8,
      ((s.ct.rows.get r).freeze = .live → a.ct.rows.get r = s.ct.rows.get r) ∧
      ∀ n, (s.ct.rows.get r).freeze = .frozen n → a.ct.rows.get r = { s.ct.rows.get r with freeze := .frozen (n - 1) }) ∧
    a.slu.settings = s.slu.settings ∧ a.slu.polling = s.slu.polling ∧ a.slu.lastPolled = s.slu.lastPolled ∧
    (∀ i : Fin 16, a.slu.sensors.get i =
      if s.slu.polling = true ∧ (s.slu.sensors.get i).present = true then
        { s.slu.sensors.get i with since := min ((s.slu.sensors.get i).since + 1) (6553500 * 125) }
      else s.slu.sensors.get i) ∧
    (∀ l : Fin 4, a.slu.timers.get l = (s.slu.timers.get l).map next ∧
      a.slu.inFlight.get l = (s.slu.inFlight.get l).map (fun p => { p with elapsed := p.elapsed + 1 }) ∧
      a.slu.lines.get l = ⟨(s.slu.lines.get l).character.map next, (s.slu.lines.get l).low.map next⟩) ∧
    a.dle = { s.dle with timer := s.dle.timer.map next } ∧ a.rlu = { s.rlu with timer := s.rlu.timer.map next } ∧
    a.fdu = { s.fdu with timer := s.fdu.timer.map next } ∧
    a.llc = { s.llc with
      ages := a.llc.ages, reInit := s.llc.reInit.map next,
      flight := s.llc.flight.map fun f => { f with elapsed := f.elapsed + 1 } } ∧
    (∀ r : Fin 8, a.llc.ages.get r = if s.llc.state = .run then (s.llc.ages.get r).map next else s.llc.ages.get r) ∧
    a.sst = { s.sst with
      loading := s.sst.loading.map next, saving := s.sst.saving.map fun v => { v with elapsed := v.elapsed + 1 } } ∧
    a.zbi = { s.zbi with lines := { s.zbi.lines with hold := s.zbi.lines.hold.map next, low := s.zbi.lines.low.map next } }) ∧
  (∀ (a : State) (c : Instr),
    -- a bit time of a sensor link in units of 1/24576 of a tick: 2^n times q periods of the 4,915,200 Hz reference
    let bit := fun l : Fin 4 =>
      625 * (2 ^ selectedN a.slu.settings.n0 a.slu.settings.n1 (a.slu.settings.links.get l).select *
        (a.slu.settings.links.get l).divisor)
    let ended := fun (kind : Frame → Prop) (cut : Bool) =>
      ∃ f, a.llc.flight = some f ∧ kind f.frame ∧ f.cut = cut ∧ f.ends ≤ f.elapsed
    c ∈ a.dueNow ↔
      match c with
      | .loadComplete => ∃ n, a.sst.loading = some n ∧ 20 * 125 ≤ n
      | .saveComplete => ∃ v, a.sst.saving = some v ∧ 400 * 125 ≤ v.elapsed
      | .shednAsserted => 125 ≤ a.fsc.steady ∧ a.fsc.shedn = false ∧ a.fsc.lineAsserted = false
      | .shednReleased => 125 ≤ a.fsc.steady ∧ a.fsc.shedn = true ∧ a.fsc.lineAsserted = true
      | .addressByte event => event = .released ∧ ∃ n, a.zbi.lines.hold = some n ∧ 2 * 125 ≤ n
      | .clockLowTimeout => a.zbi.lines.low = some (25 * 125)
      | .rluOneSecondTimer => ∃ n, a.rlu.timer = some n ∧ 1000 * 125 ≤ n
      | .dleOneSecondTimer => ∃ n, a.dle.timer = some n ∧ 1000 * 125 ≤ n
      | .freezeTimerExpiry r => (a.ct.rows.get r).freeze = .frozen 0
      | .healthTimeout i =>
        let r := a.slu.sensors.get i
        a.slu.polling = true ∧
          ((r.health = .fresh ∧ 2000 * 125 ≤ r.since) ∨
            ((r.health = .stale ∨ r.health = .waiting) ∧ 30000 * 125 ≤ r.since))
      | .noReply l => ∃ p, a.slu.inFlight.get l = some p ∧
          ((p.started = none ∧ (11 + 3 * 11) * bit l ≤ 24576 * p.elapsed) ∨
            ∃ e, p.started = some e ∧ 6 * 11 * bit l ≤ 24576 * (p.elapsed - e))
      | .pollTimer l event => event = .expires ∧ ∃ n, a.slu.timers.get l = some n ∧ 50 * 125 ≤ n
      | .reInitTimer => ∃ n, a.llc.reInit = some n ∧ 10000 * 125 ≤ n
      | .rowDue r => a.llc.state = .run ∧ a.ct.configured r = true ∧
          ∃ age, a.llc.ages.get r = some age ∧ a.llc.interval * 125 ≤ 2 * age
      | .fadeEvent => ∃ n, a.fdu.timer = some n ∧ 100 * 125 ≤ n
      | .initGroupComplete => ended (fun f => f = .initGroup) false
      | .burstComplete => ended (fun f => ∃ r first bays, f = .burst r first bays) false
      | .allTouchComplete => ended (fun f => f = .allTouch) false
      | .shedFrameComplete => ended (fun f => ∃ levels, f = .shed levels) false
      | .cutFrameComplete => ended (fun _ => True) true
      | _ => False)

/-- Every command answers a next state and leaves the queue of waiting commands as it is: no command faults or is refused by the
model. -/
def Obligations.EveryCommandCompletesAndKeepsQueue : Prop :=
  ∀ (c : Instr) (s : State), ∃ t, exec c s = .next t ∧ t.pending = s.pending

/-- What a full reset leaves in the floor state, the link with its two pins, the request list, the sensor links and their records, the
sections, the fades, the save state and the bus. -/
def Obligations.ResetValues : Prop :=
  State.reset.fsc.part = .starting ∧ State.reset.fsc.latch = false ∧ State.reset.fsc.lineAsserted = false ∧
    State.reset.fsc.restartPending = false ∧ State.reset.fsc.steady = 0 ∧
    State.reset.llc.state = .off ∧ State.reset.llc.queue = [] ∧
    State.reset.llc.pendingShed = false ∧ State.reset.llc.pendingInit = false ∧ State.reset.llc.pendingInterval = none ∧
    State.reset.llc.reInit = none ∧ State.reset.rlu.list = [] ∧ State.reset.rlu.timer = none ∧ State.reset.fdu.timer = none ∧
    State.reset.llc.flight = none ∧ State.reset.lde = false ∧ State.reset.ltx = true ∧
    State.reset.sst.saving = none ∧ State.reset.dle.timer = none ∧ State.reset.slu.polling = false ∧
    (∀ l : Fin 4, State.reset.slu.timers.get l = none ∧ State.reset.slu.inFlight.get l = none ∧
      State.reset.sensorTx l = true) ∧
    (∀ i : Fin 16, (State.reset.slu.sensors.get i).errors = 0 ∧ (State.reset.slu.sensors.get i).lastError = none ∧
      (State.reset.slu.sensors.get i).sample = none ∧ (State.reset.slu.sensors.get i).since = 0 ∧
      (State.reset.slu.sensors.get i).run = 0 ∧ (State.reset.slu.sensors.get i).saturated = false) ∧
    State.reset.zbi.transfer = .idle ∧ State.reset.zbi.address = none ∧ State.reset.zbi.request = none ∧
    State.reset.zbi.reply = none ∧ State.reset.zbi.pendingOwn = none ∧ State.reset.zbi.lines.pullsZda = false ∧
    State.reset.zbi.lines.hold = none ∧ State.reset.zbi.lines.bits = [] ∧
    (∀ c : Fin 256, State.reset.rlu.resolved.get c = ⟨.base, none⟩ ∧ State.reset.fdu.levels.get c = none ∧
      State.reset.llc.taken.get c = none ∧ State.reset.lau.cells.get c = .cleared ∧ State.reset.ct.held.get c = none) ∧
    (∀ r : Fin 8, (State.reset.ct.rows.get r).freeze = .live) ∧
    (∀ i : Fin 16, (State.reset.dle.sections.get i).filtered = none ∧ (State.reset.dle.sections.get i).step = none ∧
      (State.reset.dle.sections.get i).hold = none)

/-- The state after reset meets every invariant below. -/
def Obligations.ResetMeetsInvariants : Prop :=
  State.reset.StartUp ∧ State.reset.Masters ∧ State.reset.Listed ∧ State.reset.Fitted ∧ State.reset.Seeded ∧
    State.reset.Sensed ∧ State.reset.Dithered ∧ State.reset.Shed ∧ State.reset.Rested ∧ State.reset.Ranges

/-! ## Invariants of every step -/

/-- Every step keeps the order of start-up, a request exactly in RECEIVING, the hold of ZCL within EXECUTING, and a stretch of ZCL low
only while ZCL is low and not held by the part. -/
def Obligations.StepKeepsStartUp : Prop := ∀ s t : State, s.StartUp → step s = .next t → t.StartUp

/-- Every step keeps a COMMISSIONING slot, distinct master addresses, and an own address that is no master's. -/
def Obligations.StepKeepsMasters : Prop := ∀ s t : State, s.StartUp → s.Masters → step s = .next t → t.Masters

/-- Every step keeps the request list within 48 entries with distinct keys, each tied to its slot, and every resolved record and
coverage count in agreement with the list and the grid. -/
def Obligations.StepKeepsListed : Prop := ∀ s t : State, s.StartUp → s.Listed → step s = .next t → t.Listed

/-- Every step keeps absent cells empty, held bases with the present cells of FROZEN rows, ages with configured rows, and the urgent
row queue free of repeats and of unconfigured rows. -/
def Obligations.StepKeepsFitted : Prop := ∀ s t : State, s.StartUp → s.Fitted → step s = .next t → t.Fitted

/-- Every step keeps a section seeded exactly while its sensor is FRESH or STALE, and a sensor ABSENT exactly while its present flag
reads no. -/
def Obligations.StepKeepsSeeded : Prop := ∀ s t : State, s.Seeded → s.Sensed → step s = .next t → t.Seeded ∧ t.Sensed

/-- Every step keeps every residue in 0..15, and 0 unless the mode is DITHER. -/
def Obligations.StepKeepsDithered : Prop := ∀ s t : State, s.StartUp → s.Dithered → step s = .next t → t.Dithered

/-- Every step keeps this: a level of SHEDn that has stood for 1 ms, 125 ticks, is the observed state; the latch is set while the line is
asserted; and every present fade level is within its row's shed level while the latch is set. -/
def Obligations.StepKeepsShed : Prop := ∀ s t : State, s.StartUp → s.Fitted → s.Shed → step s = .next t → t.Shed

/-- Every step keeps this: the link in RUN is idle only with no SHED frame and no INIT group pending, no lowered interval pending, and
no row due. -/
def Obligations.StepKeepsRested : Prop := ∀ s t : State, s.Ranges → s.Rested → step s = .next t → t.Rested

/-- Every step keeps the calibration, the row records, the held bases, the entries and the resolved records in their ranges. -/
def Obligations.StepKeepsGridAndListRanges : Prop :=
  (∀ s t : State, s.Ranges → step s = .next t → CtRanges t.ct) ∧
  (∀ s t : State, s.Ranges → step s = .next t → ListRanges t.rlu)

/-- Every step keeps the link settings, the sensor records and the section records in their ranges. -/
def Obligations.StepKeepsSensorRanges : Prop := ∀ s t : State, s.Ranges → step s = .next t → t.SensorRanges

/-- Every step keeps every base level, goal, fade level, taken level, staged level, profile and refresh interval in its range. -/
def Obligations.StepKeepsLevelRanges : Prop := ∀ s t : State, s.Ranges → step s = .next t → t.LevelRanges

/-! ## Resets -/

/-- POWER_ON and RSTN_RELEASE begin STARTING: every block at its reset values, the load begun, the store kept but for the check word
of a save cut short, which the model records as absent (log 9). The part releases both lines of the zone bus and finds there what the
other parties drive; SHEDn stands at the panel's level, released and not yet qualified. RSTN_LOW leaves the same values with the part
held and no load begun; while it is held, no command but a reset event changes it (log 17), save that the zone bus's lines, SHEDn and
the receive lines carry what others drive. A receive line that is low through a reset stays low, with no character on it (log 24). The settings that stand before the load are the model's (log 2). -/
def Obligations.ResetEvents : Prop :=
  ∀ s : State,
    let store := if s.sst.saving.isSome then { s.sst.store with check := none } else s.sst.store
    let found := { State.reset.zbi with
      lines := ⟨s.zbi.lines.zcl, s.zbi.lines.zda, false, false, [], false, none, none⟩ }
    let linked := fun t : State =>
      t.slu = { State.reset.slu with lines := t.slu.lines } ∧ ∀ l : Fin 4, t.slu.lines.get l = ⟨none, (s.slu.lines.get l).low⟩
    (∃ t, exec .powerOn s = .next t ∧ t.fsc = { State.reset.fsc with shedn := s.fsc.shedn } ∧ t.sst.loading = some 0 ∧
      t.sst.saving = none ∧ t.sst.store = store ∧ t.zbi = found ∧ linked t ∧
      State.reset.keepsBut [.slu, .fsc, .sst, .zbi, .queue] t) ∧
    (∃ t, exec .rstnLow s = .next t ∧ t.fsc = { State.reset.fsc with resetHeld := true, shedn := s.fsc.shedn } ∧
      t.sst.loading = none ∧ t.sst.saving = none ∧ t.sst.store = store ∧ t.zbi = found ∧ linked t ∧
      State.reset.keepsBut [.slu, .fsc, .sst, .zbi, .queue] t) ∧
    (s.fsc.resetHeld = true → ∃ t, exec .rstnRelease s = .next t ∧ t.fsc = { State.reset.fsc with shedn := s.fsc.shedn } ∧
      t.sst.loading = some 0 ∧ t.sst.saving = none ∧ t.sst.store = store ∧ t.zbi = found ∧ linked t ∧
      State.reset.keepsBut [.slu, .fsc, .sst, .zbi, .queue] t) ∧
    (s.fsc.resetHeld = true → ∀ c : Instr, c ≠ .powerOn → c ≠ .rstnLow → c ≠ .rstnRelease →
      (∀ zcl zda, c ≠ .addressByte (.lines zcl zda)) → (∀ high, c ≠ .addressByte (.shedn high)) →
      (∀ l, c ≠ .pollTimer l .falls) → (∀ l, c ≠ .pollTimer l .rises) → exec c s = .next s) ∧
    (s.fsc.resetHeld = true → ∀ zcl zda, exec (.addressByte (.lines zcl zda)) s =
      .next (s.setZbi { s.zbi with lines := { s.zbi.lines with zcl, zda } })) ∧
    (s.fsc.resetHeld = true → ∀ l : Fin 4,
      let line := s.slu.lines.get l
      exec (.pollTimer l .falls) s =
        .next (s.setSlu { s.slu with lines := s.slu.lines.set l ⟨line.character, some (line.low.getD 0)⟩ }) ∧
      exec (.pollTimer l .rises) s = .next (s.setSlu { s.slu with lines := s.slu.lines.set l ⟨line.character, none⟩ }))

/-- LOAD_COMPLETE: a good store gives the stored settings, a bad one the factory defaults and the unconfigured indicator; every
present sensor is WAITING and every absent one ABSENT, with cleared records and unseeded sections; polling and the one-second timers
start; and the link leaves OFF, where LDE is inactive and LTX high, for INIT with its INIT group. The part stays in STARTING and the
store as it is. A store is good exactly when its check word and its master table are sound, its own address is no master's, and no
stored value is one that its request refuses. -/
def Obligations.LoadCompletes : Prop :=
  (∀ s : State, s.llc.state = .off → s.lde = false ∧ s.ltx = true) ∧
  (∀ x : Store, x.good = true ↔
    x.check = some (~~~ BitVec.ofNat 16 ((x.settings.bytes.map BitVec.toNat).sum)) ∧
      (∀ m : Fin 8, (x.settings.slots.get m).role.toNat ≤ 4) ∧ (∃ m : Fin 8, (x.settings.slots.get m).role = 1) ∧
      (∀ m : Fin 8, (x.settings.slots.get m).role ≠ 0 →
        0x08 ≤ (x.settings.slots.get m).address.toNat ∧ (x.settings.slots.get m).address.toNat ≤ 0x77 ∧
          (x.settings.slots.get m).address ≠ x.settings.own) ∧
      (∀ m n : Fin 8, m ≠ n → (x.settings.slots.get m).role ≠ 0 → (x.settings.slots.get n).role ≠ 0 →
        (x.settings.slots.get m).address ≠ (x.settings.slots.get n).address) ∧
      0x08 ≤ x.settings.own.toNat ∧ x.settings.own.toNat ≤ 0x77 ∧
      (∀ l : Fin 4, (x.settings.links.get l).select.toNat ≤ 1) ∧ x.settings.mode.toNat ≤ 2) ∧
  ∀ s : State, s.fsc.resetHeld = false → s.sst.loading.isSome = true →
    ∃ t, exec .loadComplete s = .next t ∧
      t.live = (if s.sst.store.good then s.sst.store.settings.live else Live.factory) ∧
      t.sst.unconfigured = !s.sst.store.good ∧ t.sst.store = s.sst.store ∧ t.sst.loading = none ∧
      t.slu.polling = true ∧ t.slu.lines = s.slu.lines ∧
      (∀ l : Fin 4, t.slu.timers.get l = (if t.slu.running l then some 0 else none) ∧ t.slu.lastPolled.get l = none) ∧
      (∀ i : Fin 16,
        let present := (t.live.sensors.get i).1
        t.slu.sensors.get i = ⟨present, if present then .waiting else .absent, 0, none, none, 0, 0, false⟩ ∧
          (t.dle.sections.get i).filtered = none ∧ (t.dle.sections.get i).step = none ∧
          (t.dle.sections.get i).hold = none) ∧
      t.dle.timer = some 0 ∧ t.rlu.timer = some 0 ∧ t.llc.state = .init ∧ t.lde = true ∧
      t.llc.flight = some ⟨.initGroup, 0, 264, false⟩ ∧
      (∀ r : Fin 8, t.llc.ages.get r = if t.ct.configured r then some 0 else none) ∧
      (∀ r : Fin 8, (t.ct.rows.get r).freeze = .live) ∧
      s.keepsBut [.ct, .slu, .dle, .rlu, .lau, .fdu, .llc, .sst, .zbi] t

/-! ## The zone bus -/

/-- The answer to an address byte, outside EXECUTING (R161, R165): the own address and the floor call for write are acknowledged and
enter RECEIVING; the own address for read enters REPLYING with the reply held, or with NO_REQUEST; everything else, and everything
in STARTING, is not acknowledged. While restart is pending only the read of a held reply is (deduced, log 22). Nothing but the ZBI
changes. Bit by bit (R159): a START or repeated START discards the byte under way and a request being received; ZDA is sampled as ZCL
rises; and eight bits, the most significant first, are answered as the whole address byte is, ZDA pulled low to acknowledge. -/
def Obligations.AddressByteAnswered : Prop :=
  (∀ (s : State) (byte : Byte), s.fsc.resetHeld = false → s.zbi.transfer ≠ .executing →
    ∃ t, exec (.addressByte (.address byte)) s = .next t ∧ s.keepsBut [.zbi] t ∧
      t.zbi.slots = s.zbi.slots ∧ t.zbi.own = s.zbi.own ∧ t.zbi.pendingOwn = s.zbi.pendingOwn ∧
      t.zbi.lines = { afterBytes s.zbi.lines with inTransfer := true, pullsZda := t.zbi.lines.pullsZda } ∧
      (let opens := s.fsc.part ≠ .starting ∧ s.fsc.restartPending = false ∧ (byte = writeAddress s.zbi.own ∨ byte = 0x00)
       let reads := s.fsc.part ≠ .starting ∧ byte = readAddress s.zbi.own ∧
         (s.fsc.restartPending = false ∨ s.zbi.reply.isSome = true)
       (opens → t.zbi.transfer = .receiving ∧ t.zbi.acked = true ∧ t.zbi.address = some byte ∧
          t.zbi.request = some [byte] ∧ t.zbi.reply = none ∧ t.zbi.lines.pullsZda = false) ∧
       (¬opens → reads → t.zbi.transfer = .replying ∧ t.zbi.acked = true ∧ t.zbi.request = none ∧
          t.zbi.reply = some (s.zbi.reply.getD (composeReply s.zbi.own .noRequest [])) ∧ t.zbi.sent = [] ∧
          -- with ZCL standing low the first bit of the status is on ZDA, and it is 0 in every status
          t.zbi.lines.pullsZda = !s.zbi.lines.zcl) ∧
       (¬opens → ¬reads → t.zbi.transfer = .notAddressed ∧ t.zbi.acked = false ∧ t.zbi.request = none ∧
          t.zbi.reply = none ∧ t.zbi.lines.pullsZda = false))) ∧
  (∀ (s : State) (zcl zda : Bool), s.fsc.resetHeld = false → s.zbi.transfer ≠ .executing → s.zbi.lines.hold = none →
    let l := s.zbi.lines
    let now := { l with zcl, zda }
    let c : Instr := .addressByte (.lines zcl zda)
    -- a START or repeated START: ZDA falls while ZCL stays high
    (l.zcl = true → zcl = true → l.zda = true → l.pullsZda = false → zda = false →
      exec c s = .next (s.setZbi { (if s.zbi.transfer = .receiving then
          { s.zbi with transfer := .notAddressed, address := none, request := none, acked := false } else s.zbi) with
        lines := { now with inTransfer := true, addressing := true, bits := [] } })) ∧
    -- ZCL rises: the wired-AND on ZDA is the next bit
    (l.zcl = false → zcl = true → l.bits.length < 8 →
      exec c s = .next (s.setZbi { s.zbi with lines := { now with bits := l.bits ++ [zda && !l.pullsZda], low := none } })) ∧
    -- ZCL falls after the eighth bit of an address byte
    (∀ byte : Byte, l.zcl = true → zcl = false → l.addressing = true →
      l.bits = (List.range 8).map (fun i => byte.getLsbD (7 - i)) →
      ∃ t u, exec c s = .next t ∧ exec (.addressByte (.address byte)) s = .next u ∧ s.keepsBut [.zbi] t ∧
        t.zbi = { u.zbi with lines := { now with low := some 0, pullsZda := u.zbi.acked } }) ∧
    -- ZCL falls at the end of an acknowledge bit: the next byte begins
    (l.zcl = true → zcl = false → l.bits.length = 9 → s.zbi.transfer ≠ .replying →
      exec c s = .next (s.setZbi { s.zbi with lines :=
        { now with addressing := false, bits := [], pullsZda := false, low := some 0 } })))

/-- A request received byte by byte: each byte is acknowledged and kept, but a length byte above 64, or a check byte that does not
make the bytes from the address byte on sum to 0 modulo 256, is not: the request is discarded, NOT_ADDRESSED, with no effect in any
block. A sound check byte takes the request as its row does. A request row, and a discarded request, are their bytes one after
another. A code that the catalogue does not name is refused with REFUSED_FORMAT, after the source check. Bit by bit, eight bits do
as the whole byte does, with ZDA pulled low to acknowledge; a taken request's ZCL is held low in EXECUTING from the end of its
acknowledge bit until the part releases it, which leads to REPLY_READY, or to NOT_ADDRESSED without a reply. -/
def Obligations.UnsoundDiscardedUnknownRefused : Prop :=
  (∀ (s : State) (b : Byte) (bytes : List Byte),
    s.fsc.resetHeld = false → s.zbi.transfer = .receiving → s.zbi.request = some bytes →
    let c : Instr := .addressByte (.byte b)
    let kept := s.setZbi { s.zbi with request := some (bytes ++ [b]), acked := true, lines := afterBytes s.zbi.lines }
    let discarded := s.setZbi { s.zbi with
      transfer := .notAddressed, address := none, request := none, acked := false, lines := afterBytes s.zbi.lines }
    (bytes.length < 3 → exec c s = .next kept) ∧
    (bytes.length = 3 → exec c s = .next (if 64 < b.toNat then discarded else kept)) ∧
    (∀ a source code length p, bytes = a :: source :: code :: length :: p → length.toNat ≤ 64 →
      (p.length < length.toNat → exec c s = .next kept) ∧
      (p.length = length.toNat → byteSum (bytes ++ [b]) ≠ 0 → exec c s = .next discarded) ∧
      (p.length = length.toNat → byteSum (bytes ++ [b]) = 0 → s.zbi.address = some a →
        let begun := s.setZbi { s.zbi with request := some [a] }
        (∀ (row : Instr) (k : Request), asRequest row = some (k, source, p) → k.code = code → exec c s = exec row begun) ∧
        exec c s = exec (.requestWithUnknownCode code source p) begun))) ∧
  (∀ (s : State) (source code length check : Byte) (p : List Byte),
    let written := fun l : List Byte => l.foldl (fun t b => t.happen (.addressByte (.byte b))) s
    exec (.requestDiscarded source code length p check) s = .next (written (source :: code :: length :: (p ++ [check]))) ∧
    exec (.requestWithUnknownCode code source p) s =
      .next (written (requestBytes (s.zbi.address.getD 0) source code p)) ∧
    ∀ (row : Instr) (k : Request), asRequest row = some (k, source, p) →
      exec row s = .next (written (requestBytes (s.zbi.address.getD 0) source k.code p))) ∧
  (∀ (s : State) (source code length : Byte) (p : List Byte) (check a : Byte),
     s.fsc.resetHeld = false → s.zbi.transfer = .receiving → s.zbi.address = some a → s.zbi.request = some [a] →
     (64 < length.toNat ∨
       (p.length = length.toNat ∧ byteSum (a :: source :: code :: length :: (p ++ [check])) ≠ 0)) →
     exec (.requestDiscarded source code length p check) s =
       .next (s.setZbi { s.zbi with
         transfer := .notAddressed, address := none, request := none, acked := false, lines := afterBytes s.zbi.lines })) ∧
  (∀ (s : State) (code source : Byte) (p : List Byte),
     code ∉ catalogueCodes → s.fsc.resetHeld = false → s.zbi.transfer = .receiving →
     s.zbi.address = some (writeAddress s.zbi.own) → s.zbi.request = some [writeAddress s.zbi.own] →
     writeAddress s.zbi.own ≠ 0x00 → p.length ≤ 64 →
     exec (.requestWithUnknownCode code source p) s =
       .next (s.setZbi (repliedWith s.zbi
         (if ∃ n : Fin 8, (s.zbi.slots.get n).role ≠ .empty ∧ (s.zbi.slots.get n).address = source then .refusedFormat
          else .refusedSource) []))) ∧
  (∀ (s : State) (zda : Bool), s.fsc.resetHeld = false → s.zbi.lines.hold = none → s.zbi.lines.zcl = true →
    let now := { s.zbi.lines with zcl := false, zda }
    let c : Instr := .addressByte (.lines false zda)
    (∀ b : Byte, s.zbi.transfer = .receiving → s.zbi.lines.addressing = false →
      s.zbi.lines.bits = (List.range 8).map (fun i => b.getLsbD (7 - i)) →
      let lines := { now with low := some 0 }
      let taken := ∃ a source code length p, s.zbi.request = some (a :: source :: code :: length :: p) ∧
        length.toNat ≤ 64 ∧ length.toNat ≤ p.length ∧
        byteSum (a :: source :: code :: length :: (p ++ [b])) = 0
      ∃ u, exec (.addressByte (.byte b)) (s.setZbi { s.zbi with lines }) = .next u ∧
        (taken → exec c s = .next (u.setZbi { u.zbi with
          transfer := .executing, lines := { lines with pullsZda := u.zbi.acked } })) ∧
        (¬taken → exec c s = .next (u.setZbi { u.zbi with lines := { lines with pullsZda := u.zbi.acked } }))) ∧
    (s.zbi.transfer = .executing → s.zbi.lines.bits.length = 9 →
      exec c s = .next (s.setZbi { s.zbi with lines :=
        { now with addressing := false, bits := [], pullsZda := false, hold := some 0, low := none } }))) ∧
  (∀ (s : State) (n : Nat), s.fsc.resetHeld = false → s.zbi.lines.hold = some n → s.zbi.transfer = .executing →
    s.zbi.lines.zcl = false →
    exec (.addressByte .released) s = .next (s.setZbi { s.zbi with
      transfer := if s.zbi.reply = none then .notAddressed else .replyReady,
      lines := { s.zbi.lines with hold := none, low := some 0 } }))

/-- The ZBI's checks of a request on the own address, in order: source, format, class. A request that fails one is refused with its
status and changes nothing but the ZBI. The request codes, the payload lengths that pass the format check and the classes permitted
are those of the catalogue, spelled out. -/
def Obligations.ChecksRefuseInOrder : Prop :=
  (∀ (c : Instr) (k : Request) (source : Byte) (p : List Byte) (s : State),
    asRequest c = some (k, source, p) → s.fsc.resetHeld = false → s.zbi.transfer = .receiving →
    s.zbi.address = some (writeAddress s.zbi.own) → s.zbi.request = some [writeAddress s.zbi.own] →
    writeAddress s.zbi.own ≠ 0x00 → p.length ≤ 64 → s.Masters →
    ((∀ n : Fin 8, (s.zbi.slots.get n).role ≠ .empty → (s.zbi.slots.get n).address ≠ source) →
      exec c s = .next (s.setZbi (repliedWith s.zbi .refusedSource []))) ∧
    (∀ n : Fin 8, (s.zbi.slots.get n).role ≠ .empty → (s.zbi.slots.get n).address = source →
      s.senderSlot source = some n ∧
      (k.admits p = false → exec c s = .next (s.setZbi (repliedWith s.zbi .refusedFormat []))) ∧
      (k.admits p = true → k.permits (s.zbi.slots.get n).role = false →
        exec c s = .next (s.setZbi (repliedWith s.zbi .refusedClass []))))) ∧
  (∀ k : Request, k.code =
    match k with
    | .setTarget => 0x01 | .setFixed => 0x02 | .setCap => 0x03 | .release => 0x04 | .releaseOwn => 0x05
    | .releaseSlot => 0x06 | .blindStep => 0x10 | .readCells => 0x20 | .readSections => 0x21 | .readRequests => 0x22
    | .readStatus => 0x23 | .readSensors => 0x24 | .clearShortfall => 0x28 | .writeCellField => 0x30 | .writeRow => 0x31
    | .calApply => 0x32 | .writeMasterSlot => 0x33 | .writeBlindTable => 0x34 | .writeProfile => 0x35
    | .writeSensor => 0x36 | .writeLinks => 0x37 | .writePart => 0x38 | .saveSettings => 0x39 | .restart => 0x3A
    | .night => 0x40 | .day => 0x41 | .shed => 0x42 | .shedClear => 0x43) ∧
  (∀ (k : Request) (p : List Byte), k.admits p = true ↔
    match k with
    | .setTarget | .setFixed | .setCap => p.length = 6 ∨ p.length = 7 ∨ p.length = 10
    | .release | .releaseSlot | .readRequests | .clearShortfall | .calApply => p.length = 1
    | .releaseOwn | .readStatus | .saveSettings | .restart | .night | .day | .shed | .shedClear => p.length = 0
    | .blindStep | .writeRow | .writeProfile => p.length = 5
    | .readCells | .writeMasterSlot | .writePart => p.length = 4
    | .readSections | .readSensors => p.length = 2
    | .writeSensor => p.length = 3
    | .writeLinks => p.length = 10
    | .writeBlindTable => p.length = 33
    | .writeCellField =>
      if byteAt p 3 = 1 ∨ byteAt p 3 = 2 ∨ byteAt p 3 = 3 then ∃ m, m ≤ 29 ∧ p.length = 6 + 2 * m
      else ∃ m, m ≤ 59 ∧ p.length = 5 + m) ∧
  (∀ k : Request, [Role.empty, .commissioning, .supervisor, .occupant, .blind].filter k.permits =
    match k with
    | .setTarget | .setFixed | .release | .releaseOwn => [.commissioning, .supervisor, .occupant]
    | .setCap | .releaseSlot | .clearShortfall | .night | .day | .shed | .shedClear => [.commissioning, .supervisor]
    | .blindStep => [.commissioning, .blind]
    | .readCells | .readSections | .readRequests | .readStatus | .readSensors =>
      [.commissioning, .supervisor, .occupant, .blind]
    | .writeCellField | .writeRow | .calApply | .writeMasterSlot | .writeBlindTable | .writeProfile | .writeSensor
    | .writeLinks | .writePart | .saveSettings | .restart => [.commissioning])

/-- On the floor call a request that is not marked as taken there, or that fails a check of the ZBI, is discarded in silence. One
taken there does to every block but the ZBI what it does on the own address, and composes no reply. Taken there are NIGHT, DAY, SHED
and SHED CLEAR, and a SET CAP with the selector ALL. -/
def Obligations.FloorCallActsInSilence : Prop :=
  (∀ (c : Instr) (k : Request) (source : Byte) (p : List Byte) (s : State),
     asRequest c = some (k, source, p) → s.fsc.resetHeld = false → s.zbi.transfer = .receiving →
     s.zbi.address = some 0x00 → s.zbi.request = some [0x00] → p.length ≤ 64 →
     (k.onFloor p = false ∨ s.senderSlot source = none ∨ k.admits p = false ∨
       ∃ n, s.senderSlot source = some n ∧ k.permits (s.zbi.slots.get n).role = false) →
     exec c s = .next (s.setZbi (floorDone s.zbi))) ∧
  (∀ (c : Instr) (k : Request) (source : Byte) (p : List Byte) (n : Fin 8) (s : State),
     asRequest c = some (k, source, p) → s.TakesOnFloor k source p n → writeAddress s.zbi.own ≠ 0x00 →
     ∃ t u, exec c s = .next t ∧
       exec c (s.setZbi { s.zbi with
         address := some (writeAddress s.zbi.own), request := some [writeAddress s.zbi.own] }) = .next u ∧
       u.keepsBut [.zbi] t ∧ t.zbi = floorDone s.zbi) ∧
  (∀ (k : Request) (p : List Byte), k.onFloor p = true ↔
    k = .night ∨ k = .day ∨ k = .shed ∨ k = .shedClear ∨
      (k = .setCap ∧ p.getD 5 0 = 0x00))

/-- Reading a reply: bytes are sent from the status byte on, FFh past the check byte or once the master has not acknowledged a byte,
and the reply stays held. On the lines, the part pulls ZDA low for each bit that is 0, the most significant first, releases it for
the acknowledge bit, and has sent the byte when that bit is sampled. The status codes are those of section 11.1. -/
def Obligations.ReplyReadSendsReply : Prop :=
  (∀ (s : State) (r : Reply) (n : Nat) (ackLast : Bool),
    s.fsc.resetHeld = false → s.zbi.transfer = .replying → s.zbi.reply = some r → 0 < n →
    ∃ t, exec (.replyRead n ackLast) s = .next t ∧ s.keepsBut [.zbi] t ∧
      (let next : Byte := if s.zbi.stopped = true ∨ ackLast = false then 0xFF
         else (r.status.code :: BitVec.ofNat 8 r.data.length :: (r.data ++ [r.check])).getD (s.zbi.sent.length + n) 0xFF
       t.zbi = { s.zbi with
         sent := t.zbi.sent, stopped := s.zbi.stopped || !ackLast,
         -- with ZCL standing low the first bit of the next byte is on ZDA
         lines := { afterBytes s.zbi.lines with pullsZda := !s.zbi.lines.zcl && !next.getLsbD 7 } }) ∧
      t.zbi.sent.length = s.zbi.sent.length + n ∧
      ∀ i, (i < s.zbi.sent.length → t.zbi.sent.getD i 0 = s.zbi.sent.getD i 0) ∧
        (s.zbi.sent.length ≤ i → i < s.zbi.sent.length + n →
          t.zbi.sent.getD i 0 =
            if s.zbi.stopped = true then 0xFF
            else (r.status.code :: BitVec.ofNat 8 r.data.length :: (r.data ++ [r.check])).getD i 0xFF)) ∧
  (∀ (s : State) (r : Reply) (zda : Bool),
    s.fsc.resetHeld = false → s.zbi.transfer = .replying → s.zbi.reply = some r → s.zbi.lines.hold = none →
    let l := s.zbi.lines
    let byte : Byte := if s.zbi.stopped = true then 0xFF
      else (r.status.code :: BitVec.ofNat 8 r.data.length :: (r.data ++ [r.check])).getD s.zbi.sent.length 0xFF
    let fallen := { l with zcl := false, zda, low := some 0 }
    -- ZCL falls before a bit, after the eighth bit, and after an acknowledge bit
    (l.zcl = true → l.addressing = false → l.bits.length < 8 → exec (.addressByte (.lines false zda)) s =
      .next (s.setZbi { s.zbi with lines := { fallen with pullsZda := !byte.getLsbD (7 - l.bits.length) } })) ∧
    (l.zcl = true → l.addressing = false → l.bits.length = 8 → exec (.addressByte (.lines false zda)) s =
      .next (s.setZbi { s.zbi with lines := { fallen with pullsZda := false } })) ∧
    (l.zcl = true → l.bits.length = 9 → exec (.addressByte (.lines false zda)) s =
      .next (s.setZbi { s.zbi with lines :=
        { fallen with addressing := false, bits := [], pullsZda := !byte.getLsbD 7 } })) ∧
    -- ZCL rises in an acknowledge bit: low is acknowledged
    (l.zcl = false → l.addressing = false → l.bits.length = 8 → exec (.addressByte (.lines true zda)) s =
      .next (s.setZbi { s.zbi with
        sent := s.zbi.sent ++ [byte], stopped := s.zbi.stopped || (zda && !l.pullsZda),
        lines := { l with zcl := true, zda, bits := l.bits ++ [zda && !l.pullsZda], low := none } }))) ∧
  (∀ status : Status, status.code =
    match status with
    | .done => 0x00 | .doneClamped => 0x01 | .doneNothing => 0x02 | .refusedSource => 0x10 | .refusedClass => 0x11
    | .refusedFormat => 0x12 | .refusedSelector => 0x13 | .refusedFull => 0x14 | .refusedBusy => 0x15
    | .refusedState => 0x16 | .noRequest => 0x20)

/-- A STOP, and a clock-low timeout outside IDLE, with no restart pending: IDLE, the request and the reply discarded, both lines
released, and a pending own address taken up; nothing but the ZBI changes, and in IDLE, and while the part itself holds ZCL, the
timeout has no effect. A STOP ends a stretch of ZCL low. A rise of ZDA while ZCL stays high is a STOP. With restart pending, the
first of the two to come applies the full reset, with the settings that stand before the load as the model has them (log 2). -/
def Obligations.TransferEndsAtStop : Prop :=
  (∀ (c : Instr) (s : State), (c = .stop ∨ c = .clockLowTimeout) → s.fsc.resetHeld = false → s.zbi.transfer ≠ .executing →
     s.fsc.restartPending = false →
     ((c = .stop ∨ s.zbi.transfer ≠ .idle) → ∃ t, exec c s = .next t ∧ s.keepsBut [.zbi] t ∧
       t.zbi.transfer = .idle ∧ t.zbi.address = none ∧ t.zbi.request = none ∧ t.zbi.reply = none ∧
       t.zbi.own = s.zbi.pendingOwn.getD s.zbi.own ∧ t.zbi.pendingOwn = none ∧ t.zbi.slots = s.zbi.slots ∧
       t.zbi.lines = { afterBytes s.zbi.lines with
         inTransfer := false, low := if c = .stop ∧ s.zbi.lines.zcl = false then some 0
           else if c = .stop then none else s.zbi.lines.low }) ∧
     (c = .clockLowTimeout → s.zbi.transfer = .idle → exec c s = .next s)) ∧
  (∀ s : State, s.fsc.resetHeld = false → s.fsc.restartPending = true → s.zbi.transfer ≠ .executing →
     (∃ t, exec .stop s = .next t ∧ t.sst.loading = some 0 ∧
       t.fsc = { State.reset.fsc with shedn := s.fsc.shedn } ∧
       t.sst.store = (if s.sst.saving.isSome then { s.sst.store with check := none } else s.sst.store) ∧
       t.slu = { State.reset.slu with lines := t.slu.lines } ∧
       (∀ l : Fin 4, t.slu.lines.get l = ⟨none, (s.slu.lines.get l).low⟩) ∧
       State.reset.keepsBut [.slu, .fsc, .sst, .zbi, .queue] t ∧ t.pending = s.pending ∧
       t.zbi = { State.reset.zbi with
         lines := ⟨s.zbi.lines.zcl, s.zbi.lines.zda, false, false, [], false, none, none⟩ }) ∧
     (s.zbi.transfer ≠ .idle → exec .clockLowTimeout s = exec .stop s)) ∧
  (∀ s : State, s.fsc.resetHeld = false → s.zbi.transfer = .executing → s.zbi.lines.hold.isSome = true →
     exec .clockLowTimeout s = .next s) ∧
  (∀ s : State, s.fsc.resetHeld = false → s.zbi.lines.hold = none → s.zbi.lines.zcl = true →
     s.zbi.lines.zda = false → s.zbi.lines.pullsZda = false → s.zbi.lines.low = none →
     exec (.addressByte (.lines true true)) s =
       exec .stop (s.setZbi { s.zbi with lines := { s.zbi.lines with zcl := true, zda := true } }))

/-- Every additive check the part forms makes its sum 0 modulo 256: the reply's, a request's as a master forms it, and those of the
BURST and SHED frames. -/
def Obligations.ChecksSumToZero : Prop :=
  (∀ (own : Byte) (status : Status) (data : List Byte),
    byteSum (readAddress own :: (composeReply own status data).bytes) = 0) ∧
  (∀ (address source code : Byte) (p : List Byte), byteSum (address :: requestBytes address source code p) = 0) ∧
  (∀ (values : List Nat), ((checkedData values).map BitVec.toNat).foldl (· + ·) 0 % 256 = 0) ∧
  (∀ (position : Fin 4) (high low : Byte),
    byteSum [pollChar position, high, low, replyCheck position high low] = 0)

/-! ## The request list -/

/-- A SET request that fails the RLU's checks of tag and form is refused with REFUSED_FORMAT, and one whose selector is malformed or
vacant with REFUSED_SELECTOR. One that passes takes its place in the list: it replaces the entry of its key; or is appended while
there is room; or, in a full list, evicts the candidate; or is refused with REFUSED_FULL. The new entry stands at the newest end, and
the reply carries outcome, evicted key, coverage and list count. A refusal changes nothing but the ZBI. A key byte has the slot in
bits 6..4 and the tag in bits 3..0, and the largest values are 2000 for a TARGET and 1000 for a FIXED and a CAP. -/
def Obligations.SetRequestRefusedOrPlaced : Prop :=
  (∀ (kind : Kind) (s : State) (source : Byte) (p : List Byte) (n : Fin 8) (sel : Selector),
     s.Takes (setRequest kind) source p n → s.Listed → byteAt p 0 ≤ 15 →
     parseSelector (byteAt p 5) (p.drop 6) = some sel → sel.malformed = false → (∃ c : Fin 256, s.ct.covers sel c = true) →
     (let e : Entry :=
       { slot := n, tag := Fin.ofNat 16 (byteAt p 0), kind, value := min (halfAt p 1) kind.limit, selector := sel,
         priority := (s.zbi.slots.get n).priority, hold := if halfAt p 3 = 0 then none else some (halfAt p 3),
         coverage := s.ct.coverage sel }
      let status : Status := if kind.limit < halfAt p 1 then .doneClamped else .done
      let others := s.rlu.list.filter fun x => !x.sameKey e
      let reply := fun (outcome key : Byte) (count : Nat) =>
        repliedWith s.zbi status ([outcome, key] ++ halfBytes (s.ct.coverage sel) ++ [BitVec.ofNat 8 count])
      -- replaced: the key is in the list
      ((∃ old ∈ s.rlu.list, old.sameKey e = true) →
        ∃ t, exec (setCommand kind source p) s = .next t ∧ relisted s t (others ++ [e]) ∧
          t.zbi = reply 1 0xFF s.rlu.list.length ∧ s.keepsBut [.rlu, .zbi, .fsc, .slu] t) ∧
      -- appended: a new key and a free place
      ((∀ old ∈ s.rlu.list, old.sameKey e = false) → s.rlu.list.length < 48 →
        ∃ t, exec (setCommand kind source p) s = .next t ∧ relisted s t (s.rlu.list ++ [e]) ∧
          t.zbi = reply 0 0xFF (s.rlu.list.length + 1) ∧ s.keepsBut [.rlu, .zbi, .fsc, .slu] t) ∧
      -- evicted: a new key, a full list and a candidate
      (∀ old, (∀ x ∈ s.rlu.list, x.sameKey e = false) → s.rlu.list.length = 48 →
        evictionCandidate e.priority s.rlu.list = some old →
        ∃ t, exec (setCommand kind source p) s = .next t ∧
          relisted s t ((s.rlu.list.filter fun x => !x.sameKey old) ++ [e]) ∧
          t.zbi = reply 2 (keyByte old.slot old.tag) 48 ∧ s.keepsBut [.rlu, .zbi, .fsc, .slu] t) ∧
      -- refused: a new key, a full list and no candidate
      ((∀ x ∈ s.rlu.list, x.sameKey e = false) → s.rlu.list.length = 48 →
        evictionCandidate e.priority s.rlu.list = none →
        exec (setCommand kind source p) s = .next (s.setZbi (repliedWith s.zbi .refusedFull []))))) ∧
  (∀ (kind : Kind) (s : State) (source : Byte) (p : List Byte) (n : Fin 8), s.Takes (setRequest kind) source p n →
     ((15 < byteAt p 0 ∨ parseSelector (byteAt p 5) (p.drop 6) = none) →
       exec (setCommand kind source p) s = .next (s.setZbi (repliedWith s.zbi .refusedFormat []))) ∧
     (∀ sel, byteAt p 0 ≤ 15 → parseSelector (byteAt p 5) (p.drop 6) = some sel →
       (sel.malformed = true ∨ ∀ c : Fin 256, s.ct.covers sel c = false) →
       exec (setCommand kind source p) s = .next (s.setZbi (repliedWith s.zbi .refusedSelector [])))) ∧
  (∀ (slot : Fin 8) (tag : Fin 16), (keyByte slot tag).toNat = slot.val * 16 + tag.val) ∧
  Kind.limit .target = 2000 ∧ Kind.limit .fixed = 1000 ∧ Kind.limit .cap = 1000

/-- An occupant's accepted TARGET or FIXED brings the part from STANDBY to RUN and enables polling, each rotation afresh; any other
SET request, refused ones and caps among them, leaves the part state and the sensor links as they are. -/
def Obligations.OccupantRequestWakesPart : Prop :=
  ∀ (kind : Kind) (s t : State) (source : Byte) (p : List Byte) (n : Fin 8),
    s.Takes (setRequest kind) source p n → exec (setCommand kind source p) s = .next t →
    (let wakes := (t.repliedStatus = some .done ∨ t.repliedStatus = some .doneClamped) ∧ kind ≠ .cap ∧
      (s.zbi.slots.get n).role = .occupant ∧ s.fsc.part = .standby
    (wakes → t.fsc = { s.fsc with part := .run } ∧ t.slu.polling = true ∧ t.slu.sensors = s.slu.sensors ∧
      ∀ l : Fin 4, t.slu.timers.get l = (if s.slu.running l then some 0 else none) ∧ t.slu.lastPolled.get l = none) ∧
    (¬wakes → t.fsc = s.fsc ∧ t.slu = s.slu))

/-- The eviction candidate is a TARGET or FIXED entry of strictly lower priority, of the lowest such priority, and the oldest of
those; there is none exactly when no TARGET or FIXED entry has lower priority. -/
def Obligations.EvictionTakesOldestOfLowest : Prop :=
  ∀ (q : Fin 8) (l : List Entry),
    (evictionCandidate q l = none ↔ ∀ f ∈ l, f.kind ≠ .cap → q ≤ f.priority) ∧
    ∀ e, evictionCandidate q l = some e →
      ∃ older newer, l = older ++ e :: newer ∧ e.kind ≠ .cap ∧ e.priority < q ∧
        (∀ f ∈ older, f.kind ≠ .cap → e.priority < f.priority) ∧ ∀ f ∈ newer, f.kind ≠ .cap → e.priority ≤ f.priority

/-- A cell's winner is the highest-priority, then newest, TARGET or FIXED entry that covers it, or BASE; its cap is the least value of
the CAP entries that cover it, or absent. An absent cell has BASE with no cap. ALL covers every present cell, MASK those whose class
byte shares a group with it, RECT those within its rows and bays, and CELL the one of its number; a coverage count is the number of
cells covered. A RECT out of order or out of range is malformed, and no other selector is. A form code with its parameters, no more
and no fewer, spells one selector. -/
def Obligations.ResolutionPicksWinnerAndCap : Prop :=
  (∀ (t : CellTable) (sel : Selector) (c : Fin 256), t.covers sel c = true ↔ t.present c = true ∧
    match sel with
    | .all => True
    | .mask m => ∃ g : Fin 8, m.getLsbD g.val = true ∧ (t.cells.get c).classByte.getLsbD g.val = true
    | .rect r0 r1 b0 b1 => r0 ≤ c.val / 32 ∧ c.val / 32 ≤ r1 ∧ b0 ≤ c.val % 32 ∧ c.val % 32 ≤ b1
    | .cell n => c = n) ∧
  (∀ (t : CellTable) (sel : Selector), t.coverage sel = ((List.finRange 256).filter (t.covers sel)).length) ∧
  (∀ sel : Selector, sel.malformed = true ↔
    ∃ r0 r1 b0 b1, sel = .rect r0 r1 b0 b1 ∧ (r1 < r0 ∨ 7 < r1 ∨ b1 < b0 ∨ 31 < b1)) ∧
  (∀ (form : Nat) (params : List Byte) (sel : Selector), parseSelector form params = some sel ↔
    (form = 0 ∧ params = [] ∧ sel = .all) ∨
    (∃ m, form = 1 ∧ params = [m] ∧ sel = .mask m) ∨
    (∃ r0 r1 b0 b1, form = 2 ∧ params = [r0, r1, b0, b1] ∧ sel = .rect r0.toNat r1.toNat b0.toNat b1.toNat) ∨
    (∃ (n : Byte) (c : Fin 256), form = 3 ∧ params = [n] ∧ c.val = n.toNat ∧ sel = .cell c)) ∧
  ∀ (t : CellTable) (l : List Entry) (c : Fin 256),
    ((resolve t l c).winner = .base ↔ ∀ e ∈ l, e.kind ≠ .cap → t.covers e.selector c = false) ∧
    (∀ older e newer, l = older ++ e :: newer → e.kind ≠ .cap → t.covers e.selector c = true →
      (∀ f ∈ older, f.kind ≠ .cap → t.covers f.selector c = true → f.priority ≤ e.priority) →
      (∀ f ∈ newer, f.kind ≠ .cap → t.covers f.selector c = true → f.priority < e.priority) →
      (resolve t l c).winner =
        match e.kind with
        | .fixed => .fixed e.slot e.tag e.value
        | _ => .target e.slot e.tag e.value) ∧
    ((resolve t l c).cap = none ↔ ∀ e ∈ l, e.kind = .cap → t.covers e.selector c = false) ∧
    (∀ v, (resolve t l c).cap = some v →
      (∃ e ∈ l, e.kind = .cap ∧ t.covers e.selector c = true ∧ e.value = v) ∧
        ∀ e ∈ l, e.kind = .cap → t.covers e.selector c = true → v ≤ e.value) ∧
    (t.present c = false → resolve t l c = ⟨.base, none⟩)

/-- RELEASE removes the sender's entry with the tag, RELEASE OWN all the sender's entries, and RELEASE SLOT all the entries of the
named slot; the rest keep their order. The reply carries the number removed and the list count. A tag above 15 or a slot above 7 is
refused. -/
def Obligations.ReleasesRemoveEntries : Prop :=
  (∀ (s : State) (source tag : Byte) (n : Fin 8), s.Takes .release source [tag] n → s.Listed →
    (15 < tag.toNat → exec (.release source [tag]) s = .next (s.setZbi (repliedWith s.zbi .refusedFormat []))) ∧
    (tag.toNat ≤ 15 → ∃ t, exec (.release source [tag]) s = .next t ∧ s.keepsBut [.rlu, .zbi] t ∧
      relisted s t (s.rlu.list.filter fun e => !(decide (e.slot = n) && decide (e.tag.val = tag.toNat))) ∧
      t.zbi = repliedWith s.zbi (if t.rlu.list = s.rlu.list then .doneNothing else .done)
        [BitVec.ofNat 8 (s.rlu.list.length - t.rlu.list.length), BitVec.ofNat 8 t.rlu.list.length])) ∧
  (∀ (s : State) (source : Byte) (n : Fin 8), s.Takes .releaseOwn source [] n → s.Listed →
    ∃ t, exec (.releaseOwn source []) s = .next t ∧ s.keepsBut [.rlu, .zbi] t ∧
      relisted s t (s.rlu.list.filter fun e => !decide (e.slot = n)) ∧
      t.zbi = repliedWith s.zbi (if t.rlu.list = s.rlu.list then .doneNothing else .done)
        [BitVec.ofNat 8 (s.rlu.list.length - t.rlu.list.length), BitVec.ofNat 8 t.rlu.list.length]) ∧
  (∀ (s : State) (source slot : Byte) (n : Fin 8), s.Takes .releaseSlot source [slot] n → s.Listed →
    (7 < slot.toNat → exec (.releaseSlot source [slot]) s = .next (s.setZbi (repliedWith s.zbi .refusedFormat []))) ∧
    (slot.toNat ≤ 7 → ∃ t, exec (.releaseSlot source [slot]) s = .next t ∧ s.keepsBut [.rlu, .zbi] t ∧
      relisted s t (s.rlu.list.filter fun e => !decide (e.slot.val = slot.toNat)) ∧
      t.zbi = repliedWith s.zbi (if t.rlu.list = s.rlu.list then .doneNothing else .done)
        [BitVec.ofNat 8 (s.rlu.list.length - t.rlu.list.length), BitVec.ofNat 8 t.rlu.list.length]))

/-- Each expiry of the RLU's one-second timer takes 1 from every remaining hold, removes the entries whose hold reaches 0 and keeps
the order of the rest; the records of the cells the removed entries covered are formed afresh, and the others stay. -/
def Obligations.ListSecondCountsHolds : Prop :=
  ∀ s : State, s.fsc.resetHeld = false → s.rlu.timer.isSome = true → ListRanges s.rlu →
    ∃ t, exec .rluOneSecondTimer s = .next t ∧ s.keepsBut [.rlu] t ∧
      t.rlu.list =
        (s.rlu.list.filter fun e => !decide (e.hold = some 1)).map (fun e => { e with hold := e.hold.map (· - 1) }) ∧
      t.rlu.timer = some 0 ∧
      ∀ c : Fin 256, t.rlu.resolved.get c =
        if ∃ e ∈ s.rlu.list, e.hold = some 1 ∧ s.ct.covers e.selector c = true then resolve s.ct t.rlu.list c
        else s.rlu.resolved.get c

/-! ## Calibration -/

/-- The clamps of the calibration fields (R3): the stored field is the written value brought into range, and no other field changes. -/
def Obligations.FieldsAreClamped : Prop :=
  (∀ (f : Field) (v : Nat), f.clamp v =
    match f with
    | .present => if v = 0 then 0 else 1
    | .efficacy => if v = 0 then 1 else if 4000 < v then 4000 else v
    | .floor => if 1000 < v then 1000 else v
    | .target => if 2000 < v then 2000 else v
    | .profile => if 7 < v then 7 else v
    | .classByte => v
    | .facade => if 15 < v then 15 else v) ∧
  ∀ (v : Nat) (k : Calibration),
    Field.present.write v k = { k with present := decide (v ≠ 0) } ∧
    Field.efficacy.write v k = { k with efficacy := if v = 0 then 1 else if 4000 < v then 4000 else v } ∧
    Field.floor.write v k = { k with floor := if 1000 < v then 1000 else v } ∧
    Field.target.write v k = { k with target := if 2000 < v then 2000 else v } ∧
    (Field.profile.write v k).profile.val = (if 7 < v then 7 else v) ∧
    (v ≤ 255 → (Field.classByte.write v k).classByte.toNat = v) ∧
    (Field.facade.write v k).facade.val = (if 15 < v then 15 else v) ∧
    Field.profile.write v k = { k with profile := (Field.profile.write v k).profile } ∧
    Field.classByte.write v k = { k with classByte := (Field.classByte.write v k).classByte } ∧
    Field.facade.write v k = { k with facade := (Field.facade.write v k).facade }

/-- WRITE CELL FIELD: a bad row, start bay, count or field code is refused; otherwise the run of n′ cells takes the list and then the
fill value, the row is frozen for 60 s, and the reply carries the list result and n′. No other cell or row changes. After the field
code come the fill value and then the list: 16 bits each, high byte first, for field codes 1, 2 and 3, and 8 bits for the others. -/
def Obligations.CellFieldWritten : Prop :=
  (∀ (code : Nat) (f : Field), Field.ofCode code = some f ↔ code =
    match f with
    | .present => 0 | .efficacy => 1 | .floor => 2 | .target => 3 | .profile => 4 | .classByte => 5 | .facade => 6) ∧
  ∀ (s : State) (source : Byte) (p : List Byte) (n : Fin 8), s.Takes .writeCellField source p n →
    ((7 < byteAt p 0 ∨ 31 < byteAt p 1 ∨ byteAt p 2 = 0 ∨ 32 < byteAt p 2 ∨ 6 < byteAt p 3) →
      exec (.writeCellField source p) s = .next (s.setZbi (repliedWith s.zbi .refusedFormat []))) ∧
    (∀ f, byteAt p 0 ≤ 7 → byteAt p 1 ≤ 31 → 1 ≤ byteAt p 2 → byteAt p 2 ≤ 32 → Field.ofCode (byteAt p 3) = some f →
      let row : Fin 8 := Fin.ofNat 8 (byteAt p 0)
      let start := byteAt p 1
      let count := min (byteAt p 2) (32 - start)
      let wide := byteAt p 3 = 1 ∨ byteAt p 3 = 2 ∨ byteAt p 3 = 3
      let value := fun i : Nat => if wide then byteAt p (4 + 2 * i) * 256 + byteAt p (5 + 2 * i) else byteAt p (4 + i)
      let fill := value 0
      let list := (List.range (if wide then (p.length - 6) / 2 else p.length - 5)).map fun i => value (i + 1)
      ∃ t, exec (.writeCellField source p) s = .next t ∧ s.keepsBut [.ct, .rlu, .lau, .fdu, .llc, .zbi] t ∧
        (∀ c : Fin 256, t.ct.cells.get c =
          if rowOf c = row ∧ start ≤ (bayOf c).val ∧ (bayOf c).val < start + count then
            f.write (list.getD ((bayOf c).val - start) fill) (s.ct.cells.get c)
          else s.ct.cells.get c) ∧
        (∀ r : Fin 8, t.ct.rows.get r =
          if r = row then { s.ct.rows.get r with freeze := .frozen (60000 * 125) } else s.ct.rows.get r) ∧
        (∀ c : Fin 256, rowOf c ≠ row → t.ct.held.get c = s.ct.held.get c) ∧
        t.zbi = repliedWith s.zbi
          (if count < byteAt p 2 ∨ ∃ i ∈ List.range count, f.clamp (list.getD i fill) ≠ list.getD i fill then .doneClamped
           else .done)
          [if list.length < count then 0 else if list.length = count then 1 else 2, BitVec.ofNat 8 count])

/-- What a write of the present field does elsewhere at once: a cell made absent loses its fade, taken and held levels and its LAU
record, a cell made present starts with none but a held base equal to its floor, and every record and coverage count of the request
list agrees with the new grid. A write of another field touches no fade level, taken level, LAU record, age or queue place. -/
def Obligations.PresenceChangesAtOnce : Prop :=
  ∀ (s t : State) (source : Byte) (p : List Byte) (n : Fin 8), s.Takes .writeCellField source p n → s.Fitted →
    s.llc.state = .run → exec (.writeCellField source p) s = .next t →
    (∀ c : Fin 256,
      (s.ct.present c = true → t.ct.present c = false →
        t.fdu.levels.get c = none ∧ t.llc.taken.get c = none ∧ t.ct.held.get c = none ∧ t.lau.cells.get c = .cleared) ∧
      (s.ct.present c = false → t.ct.present c = true →
        t.fdu.levels.get c = none ∧ t.llc.taken.get c = none ∧ t.ct.held.get c = some (t.ct.cells.get c).floor ∧
          t.lau.cells.get c = .cleared) ∧
      (s.ct.present c = t.ct.present c →
        t.fdu.levels.get c = s.fdu.levels.get c ∧ t.llc.taken.get c = s.llc.taken.get c ∧
          t.lau.cells.get c = s.lau.cells.get c)) ∧
    (∀ r : Fin 8,
      t.llc.ages.get r =
        if t.ct.configured r = false then none else if s.ct.configured r = false then some 0 else s.llc.ages.get r) ∧
    t.llc.queue = s.llc.queue.filter t.ct.configured ∧
    (byteAt p 3 ≠ 0 → t.lau = s.lau ∧ t.fdu = s.fdu ∧ t.llc = s.llc) ∧
    (byteAt p 3 = 0 ∨ byteAt p 3 = 5 → s.Listed →
      t.rlu.list = (s.rlu.list.map fun e => { e with coverage := t.ct.coverage e.selector }) ∧
        t.rlu.timer = s.rlu.timer ∧ ∀ c : Fin 256, t.rlu.resolved.get c = resolve t.ct t.rlu.list c) ∧
    (byteAt p 3 ≠ 0 → byteAt p 3 ≠ 5 → t.rlu = s.rlu)

/-- A write to a LIVE row captures each present cell's last base level, or its floor where it has none, before its own values are
stored; a write to a FROZEN row captures nothing. -/
def Obligations.FreezeCapturesHeldBases : Prop :=
  ∀ (c : Instr) (s t : State) (source : Byte) (p : List Byte) (n : Fin 8),
    ((c = .writeRow source p ∧ s.Takes .writeRow source p n) ∨
      (c = .writeCellField source p ∧ s.Takes .writeCellField source p n)) →
    exec c s = .next t → t.ct ≠ s.ct → ∀ x : Fin 256, (rowOf x).val = byteAt p 0 → s.ct.present x = true →
    t.ct.present x = true →
    t.ct.rowFrozen (rowOf x) = true ∧
      t.ct.held.get x =
        if s.ct.rowFrozen (rowOf x) = true then s.ct.held.get x
        else some (((s.lau.cells.get x).lastBase).getD (s.ct.cells.get x).floor)

/-- WRITE ROW: a row above 7 is refused; otherwise both values are stored, clamped, and the row is frozen for 60 s. With the latch set
and the shed level changed, the row's fade levels are brought down to it at once. -/
def Obligations.RowWritten : Prop :=
  ∀ (s : State) (source : Byte) (p : List Byte) (n : Fin 8), s.Takes .writeRow source p n →
    (7 < byteAt p 0 → exec (.writeRow source p) s = .next (s.setZbi (repliedWith s.zbi .refusedFormat []))) ∧
    (byteAt p 0 ≤ 7 →
      let row : Fin 8 := Fin.ofNat 8 (byteAt p 0)
      let factor := min (halfAt p 1) 10000
      let level := min (halfAt p 3) 1000
      let clamps := s.fsc.latch = true ∧ level ≠ (s.ct.rows.get row).shedLevel
      ∃ t, exec (.writeRow source p) s = .next t ∧ s.keepsBut [.ct, .fdu, .llc, .zbi] t ∧
        t.ct.cells = s.ct.cells ∧ (∀ c : Fin 256, rowOf c ≠ row → t.ct.held.get c = s.ct.held.get c) ∧
        (∀ r : Fin 8, t.ct.rows.get r = if r = row then ⟨factor, level, .frozen (60000 * 125)⟩ else s.ct.rows.get r) ∧
        (∀ c : Fin 256, t.fdu.levels.get c =
          if clamps ∧ rowOf c = row ∧ s.ct.present c = true then (s.fdu.levels.get c).map fun v => min v level
          else s.fdu.levels.get c) ∧
        t.fdu.profiles = s.fdu.profiles ∧ t.fdu.timer = s.fdu.timer ∧
        (¬clamps → t.fdu = s.fdu ∧ t.llc = s.llc) ∧
        (clamps → t.llc.pendingShed = true ∨ ∃ f, t.llc.flight = some f ∧ f.frame = .shed (t.ct.rows.map RowRecord.shedLevel)) ∧
        t.zbi = repliedWith s.zbi (if 10000 < halfAt p 1 ∨ 1000 < halfAt p 3 then .doneClamped else .done) [])

/-- CAL APPLY and the expiry of a freeze timer make the FROZEN rows they name LIVE, with their held bases absent, and change nothing
else. CAL APPLY answers DONE when a named row was FROZEN and DONE_NOTHING otherwise, and refuses rows 8..FEh. -/
def Obligations.RowsThaw : Prop :=
  (∀ (s : State) (source row : Byte) (n : Fin 8), s.Takes .calApply source [row] n →
    (7 < row.toNat → row ≠ 0xFF →
      exec (.calApply source [row]) s = .next (s.setZbi (repliedWith s.zbi .refusedFormat []))) ∧
    (row.toNat ≤ 7 ∨ row = 0xFF →
      let names := fun r : Fin 8 => row = 0xFF ∨ r.val = row.toNat
      ∃ t, exec (.calApply source [row]) s = .next t ∧ s.keepsBut [.ct, .zbi] t ∧ t.ct.cells = s.ct.cells ∧
        (∀ r : Fin 8, t.ct.rows.get r = if names r then { s.ct.rows.get r with freeze := .live } else s.ct.rows.get r) ∧
        (∀ c : Fin 256, t.ct.held.get c =
          if names (rowOf c) ∧ s.ct.frozenCell c = true then none else s.ct.held.get c) ∧
        t.zbi = repliedWith s.zbi (if ∃ r, names r ∧ s.ct.rowFrozen r = true then .done else .doneNothing) [])) ∧
  (∀ (s : State) (row : Fin 8), s.fsc.resetHeld = false →
    ∃ t, exec (.freezeTimerExpiry row) s = .next t ∧ s.keepsBut [.ct] t ∧ t.ct.cells = s.ct.cells ∧
      (∀ r : Fin 8, t.ct.rows.get r = if r = row then { s.ct.rows.get r with freeze := .live } else s.ct.rows.get r) ∧
      ∀ c : Fin 256, t.ct.held.get c =
        if rowOf c = row ∧ s.ct.frozenCell c = true then none else s.ct.held.get c)

/-- CLEAR SHORTFALL clears the shortfall flag of every cell of the named rows and nothing else, and answers the number of flags it
cleared; rows 8..FEh are refused. -/
def Obligations.ShortfallCleared : Prop :=
  ∀ (s : State) (source row : Byte) (n : Fin 8), s.Takes .clearShortfall source [row] n →
    (7 < row.toNat → row ≠ 0xFF →
      exec (.clearShortfall source [row]) s = .next (s.setZbi (repliedWith s.zbi .refusedFormat []))) ∧
    (row.toNat ≤ 7 ∨ row = 0xFF →
      let names := fun c : Fin 256 => row = 0xFF ∨ (rowOf c).val = row.toNat
      let count := (List.finRange 256).countP fun c => decide (names c) && (s.lau.cells.get c).shortfall
      ∃ t, exec (.clearShortfall source [row]) s = .next t ∧ s.keepsBut [.lau, .zbi] t ∧ t.lau.mode = s.lau.mode ∧
        (∀ c : Fin 256, t.lau.cells.get c =
          if names c then { s.lau.cells.get c with shortfall := false } else s.lau.cells.get c) ∧
        t.zbi = repliedWith s.zbi (if count = 0 then .doneNothing else .done) (halfBytes count))

/-! ## Daylight -/

/-- BLIND STEP gives every named section the step and the hold, WRITE BLIND TABLE replaces the table and the fallback step, and the
DLE's second takes 1 from every hold and makes a section whose hold reaches 0 UNKNOWN. -/
def Obligations.BlindReportsKept : Prop :=
  (∀ (s : State) (source : Byte) (p : List Byte) (n : Fin 8), s.Takes .blindStep source p n →
    (halfAt p 0 = 0 → exec (.blindStep source p) s = .next (s.setZbi (repliedWith s.zbi .refusedSelector []))) ∧
    (halfAt p 0 ≠ 0 → ∃ t, exec (.blindStep source p) s = .next t ∧ s.keepsBut [.dle, .zbi] t ∧
      t.dle.attenuation = s.dle.attenuation ∧ t.dle.fallback = s.dle.fallback ∧ t.dle.timer = s.dle.timer ∧
      (∀ i : Fin 16, t.dle.sections.get i =
        if (halfAt p 0).testBit i.val then
          { s.dle.sections.get i with
            step := some (Fin.ofNat 16 (min (byteAt p 2) 15)), hold := if halfAt p 3 = 0 then none else some (halfAt p 3) }
        else s.dle.sections.get i) ∧
      t.zbi = repliedWith s.zbi (if 15 < byteAt p 2 then .doneClamped else .done) [])) ∧
  (∀ (s : State) (source : Byte) (p : List Byte) (n : Fin 8), s.Takes .writeBlindTable source p n →
    ∃ t, exec (.writeBlindTable source p) s = .next t ∧ s.keepsBut [.dle, .zbi] t ∧
      t.dle.sections = s.dle.sections ∧ t.dle.timer = s.dle.timer ∧
      (∀ q : Fin 16, t.dle.attenuation.get q = min (halfAt p (2 * q.val)) 256) ∧
      t.dle.fallback.val = min (byteAt p 32) 15 ∧
      t.zbi = repliedWith s.zbi
        (if 15 < byteAt p 32 ∨ ∃ q : Fin 16, 256 < halfAt p (2 * q.val) then .doneClamped else .done) []) ∧
  (∀ s : State, s.fsc.resetHeld = false → s.dle.timer.isSome = true → s.SensorRanges →
    ∃ t, exec .dleOneSecondTimer s = .next t ∧ s.keepsBut [.dle] t ∧
      t.dle.attenuation = s.dle.attenuation ∧ t.dle.fallback = s.dle.fallback ∧ t.dle.timer = some 0 ∧
      ∀ i : Fin 16, t.dle.sections.get i =
        if (s.dle.sections.get i).hold = some 1 then { s.dle.sections.get i with step := none, hold := none }
        else { s.dle.sections.get i with hold := (s.dle.sections.get i).hold.map (· - 1) })

/-- The effective façade value and its source (R48): the section's own while its sensor is FRESH or STALE; else its lower neighbour's,
else its upper neighbour's, each only while that neighbour's own sensor is; else 0, DARK. It lies within 0..262,080 lux, an absent
sensor is never usable, and a section whose sensor is not usable has no value of its own. -/
def Obligations.SubstitutionByNeighbours : Prop :=
  ∀ (s : State) (i : Fin 16),
    let good := fun j : Fin 16 => (s.slu.sensors.get j).health = .fresh ∨ (s.slu.sensors.get j).health = .stale
    let value := fun j : Fin 16 => ((s.dle.sections.get j).filtered).getD 0
    (good i → s.effective i = (value i, .own)) ∧
    (∀ j : Fin 16, ¬good i → j.val + 1 = i.val → good j → s.effective i = (value j, .lower)) ∧
    (∀ j : Fin 16, ¬good i → (∀ k : Fin 16, k.val + 1 = i.val → ¬good k) → i.val + 1 = j.val → good j →
      s.effective i = (value j, .upper)) ∧
    (¬good i → (∀ k : Fin 16, k.val + 1 = i.val ∨ i.val + 1 = k.val → ¬good k) → s.effective i = (0, .dark)) ∧
    (s.Seeded → ¬good i → (s.dle.sections.get i).filtered = none) ∧
    (s.Sensed → (s.slu.sensors.get i).present = false → ¬good i) ∧
    (s.SensorRanges → (s.effective i).1 ≤ 262080)

/-- A filter step (R44) moves the filtered value toward the sample by the difference over 2^k, truncated toward zero but at least 1,
and never past it, so it stays within 0..262,080; it leaves the value where the difference is 0, and seeds an unseeded section.
Nothing else of the section changes. -/
def Obligations.FilterStepTruncatesTowardSample : Prop :=
  ∀ (c : Section) (lux : Nat),
    (c.filtered = none → c.take (.filterStep lux) = { c with filtered := some lux }) ∧
    ∀ f, c.filtered = some f → ∃ g, c.take (.filterStep lux) = { c with filtered := some g } ∧
      (f = lux → g = f) ∧ (f ≤ 262080 → lux ≤ 262080 → g ≤ 262080) ∧
      (f < lux → g = f + max 1 ((lux - f) / 2 ^ c.shift) ∧ g ≤ lux) ∧
      (lux < f → g + max 1 ((f - lux) / 2 ^ c.shift) = f ∧ lux ≤ g)

/-! ## Sensor links -/

/-- A sound reply within both limits, by the part's own count of the poll and by the reply's own times, with status OK or SATURATED:
the sample is scaled by 4 to the range code and stored, the error count and the time go to 0, and the health machine moves with its
hand-off to the section. Only the polled sensor, its section and its link's poll and line change. -/
def Obligations.ValidReplyMovesHealth : Prop :=
  ∀ (s : State) (l : Fin 4) (c1 c2 c3 : RxChar) (q : Poll),
    s.fsc.resetHeld = false → s.slu.inFlight.get l = some q → (c1.gap ≤ 3 * 11 ∧ 3 * 11 + c2.gap + c3.gap ≤ 6 * 11) →
    -- a bit time of the link in units of 1/24576 of a tick
    (let k := s.slu.settings.links.get l
     let bit := 625 * (2 ^ selectedN s.slu.settings.n0 s.slu.settings.n1 k.select * k.divisor)
     (q.started = none → 24576 * q.elapsed < (11 + 3 * 11) * bit) ∧
       ∀ e, q.started = some e → 24576 * (q.elapsed - e) < 6 * 11 * bit) →
    (c1.stop = true ∧ c2.stop = true ∧ c3.stop = true) →
    (c1.parity = evenParity c1.data ∧ c2.parity = evenParity c2.data ∧ c3.parity = evenParity c3.data) →
    (q.position.val + c1.data.toNat + c2.data.toNat + c3.data.toNat) % 256 = 0 → c1.data.toNat % 4 ≤ 1 →
    let i := sensorAt l q.position
    let old := s.slu.sensors.get i
    let count := c1.data.toNat / 4 % 16 * 256 + c2.data.toNat
    let range := c1.data.toNat / 64
    let lux := count * 4 ^ range
    ∃ t, exec (.sensorReply l c1 c2 c3) s = .next t ∧ s.keepsBut [.slu, .dle] t ∧
      t.slu = { s.slu with
        sensors := t.slu.sensors, inFlight := s.slu.inFlight.set l none, lines := s.slu.lines.set l ⟨none, none⟩ } ∧
      t.dle = { s.dle with sections := t.dle.sections } ∧
      (∀ j, j ≠ i → t.slu.sensors.get j = s.slu.sensors.get j ∧ t.dle.sections.get j = s.dle.sections.get j) ∧
      (let new := t.slu.sensors.get i
       let sec' := t.dle.sections.get i
       let sec := s.dle.sections.get i
       new.sample = some ⟨count, range, lux⟩ ∧ new.saturated = decide (c1.data.toNat % 4 = 1) ∧ new.errors = 0 ∧
         new.since = 0 ∧ new.lastError = old.lastError ∧ new.present = old.present ∧
         (old.health = .waiting → new.health = .fresh ∧ sec' = { sec with filtered := some lux }) ∧
         (old.health = .fresh ∨ old.health = .stale →
           new.health = .fresh ∧ sec' = sec.take (.filterStep lux)) ∧
         (old.health = .failed → new.health = .recovering ∧ new.run = 1 ∧ sec' = { sec with filtered := none }) ∧
         (old.health = .recovering → old.run + 1 < 4 →
           new.health = .recovering ∧ new.run = old.run + 1 ∧ sec' = sec) ∧
         (old.health = .recovering → 4 ≤ old.run + 1 →
           new.health = .fresh ∧ new.run = 0 ∧ sec' = { sec with filtered := some lux }))

/-- An error outcome: NO_REPLY for a limit that ran out or was passed, by the part's count of the poll or by the reply's own times,
else of the first kind that applies. It is recorded and counted up to 8; the eighth in WAITING, FRESH or STALE, and any in
RECOVERING, makes the sensor FAILED and unseeds its section. With no poll in flight a reply is discarded and NO_REPLY does nothing
(log 5). -/
def Obligations.ErrorOutcomesCounted : Prop :=
  ∀ (s : State) (l : Fin 4) (c1 c2 c3 : RxChar), s.fsc.resetHeld = false →
    let lines := s.slu.lines.set l ⟨none, if c3.stop = true then none else (s.slu.lines.get l).low⟩
    (s.slu.inFlight.get l = none →
      exec (.sensorReply l c1 c2 c3) s = .next (s.setSlu { s.slu with lines }) ∧ exec (.noReply l) s = .next s) ∧
    ∀ (c : Instr) (e : SensorError) (q : Poll), s.slu.inFlight.get l = some q →
      (let k := s.slu.settings.links.get l
       let bit := 625 * (2 ^ selectedN s.slu.settings.n0 s.slu.settings.n1 k.select * k.divisor)
       let timely := c1.gap ≤ 3 * 11 ∧ 3 * 11 + c2.gap + c3.gap ≤ 6 * 11 ∧
         (q.started = none → 24576 * q.elapsed < (11 + 3 * 11) * bit) ∧
         ∀ e, q.started = some e → 24576 * (q.elapsed - e) < 6 * 11 * bit
       let framed := c1.stop = true ∧ c2.stop = true ∧ c3.stop = true
       let even := c1.parity = evenParity c1.data ∧ c2.parity = evenParity c2.data ∧ c3.parity = evenParity c3.data
       let sums := (q.position.val + c1.data.toNat + c2.data.toNat + c3.data.toNat) % 256 = 0
       (c = .noReply l ∧ e = .noReply) ∨
         (c = .sensorReply l c1 c2 c3 ∧
           ((¬timely ∧ e = .noReply) ∨
             (timely ∧
               ((¬framed ∧ e = .framing) ∨ (framed ∧ ¬even ∧ e = .parity) ∨ (framed ∧ even ∧ ¬sums ∧ e = .check) ∨
                 (framed ∧ even ∧ sums ∧ 2 ≤ c1.data.toNat % 4 ∧ e = .sensorFault)))))) →
      let i := sensorAt l q.position
      let old := s.slu.sensors.get i
      ∃ t, exec c s = .next t ∧ s.keepsBut [.slu, .dle] t ∧
        t.slu = { s.slu with
          sensors := t.slu.sensors, inFlight := s.slu.inFlight.set l none,
          lines := if c = .noReply l then s.slu.lines else lines } ∧
        t.dle = { s.dle with sections := t.dle.sections } ∧
        (∀ j, j ≠ i → t.slu.sensors.get j = s.slu.sensors.get j ∧ t.dle.sections.get j = s.dle.sections.get j) ∧
        (let new := t.slu.sensors.get i
         let fails := (8 ≤ old.errors + 1 ∧ (old.health = .waiting ∨ old.health = .fresh ∨ old.health = .stale)) ∨
           old.health = .recovering
         new.lastError = some e ∧ new.errors = min (old.errors + 1) 8 ∧ new.sample = old.sample ∧
           new.saturated = old.saturated ∧ new.since = old.since ∧ new.present = old.present ∧
           (fails → new.health = .failed ∧ t.dle.sections.get i = { s.dle.sections.get i with filtered := none }) ∧
           (¬fails → new.health = old.health ∧ t.dle.sections.get i = s.dle.sections.get i) ∧
           (old.health = .recovering → new.run = 0 ∧ (old.errors = 0 → new.errors = 1)))

/-- The health limits (R34) and the poll timers (R26, R27): a FRESH sensor becomes STALE and keeps its section; a STALE or WAITING
one becomes FAILED and its section unseeded; and an expiry with the line free polls the first present position after the last one
polled, wrapping from 3 to 0, while one with the line busy polls nothing. The line is busy while a character is partly received, up
to its eleventh bit, or when it has been low for more than 11 bit times; its falls and rises are followed as they come (log 24). An
expiry that comes as a command on a free line with a poll still in flight replaces that poll, without an outcome (log 28).
Sensor s is on link s div 4, at position s mod 4. -/
def Obligations.SensorTimersRunOut : Prop :=
  (∀ l p : Fin 4, (sensorAt l p).val = 4 * l.val + p.val) ∧
  (∀ (s : State) (i : Fin 16), s.fsc.resetHeld = false → s.slu.polling = true →
    ∃ t, exec (.healthTimeout i) s = .next t ∧ s.keepsBut [.slu, .dle] t ∧
      t.slu = { s.slu with sensors := t.slu.sensors } ∧ t.dle = { s.dle with sections := t.dle.sections } ∧
      (∀ j, j ≠ i → t.slu.sensors.get j = s.slu.sensors.get j ∧ t.dle.sections.get j = s.dle.sections.get j) ∧
      (let old := s.slu.sensors.get i
       let new := t.slu.sensors.get i
       new.errors = old.errors ∧ new.sample = old.sample ∧
         (old.health = .fresh → new.health = .stale ∧ t.dle.sections.get i = s.dle.sections.get i) ∧
         (old.health = .stale ∨ old.health = .waiting →
           new.health = .failed ∧ t.dle.sections.get i = { s.dle.sections.get i with filtered := none }) ∧
         (old.health = .absent ∨ old.health = .failed ∨ old.health = .recovering →
           new = old ∧ t.dle.sections.get i = s.dle.sections.get i))) ∧
  (∀ (s : State) (i : Fin 16), s.slu.polling = false → exec (.healthTimeout i) s = .next s) ∧
  (∀ (s : State) (l : Fin 4), s.fsc.resetHeld = true → exec (.pollTimer l .expires) s = .next s) ∧
  (∀ (s : State) (l : Fin 4), s.fsc.resetHeld = false →
    let k := s.slu.settings.links.get l
    -- a bit time of the link in units of 1/24576 of a tick
    let bit := 625 * (2 ^ selectedN s.slu.settings.n0 s.slu.settings.n1 k.select * k.divisor)
    let line := s.slu.lines.get l
    let receiving := ∃ n, line.character = some n ∧ 24576 * n < 10 * bit
    let busy := receiving ∨ ∃ n, line.low = some n ∧ 11 * bit < 24576 * n
    (s.slu.timers.get l = none → exec (.pollTimer l .expires) s = .next s) ∧
    ((s.slu.timers.get l).isSome = true →
      ∃ t, exec (.pollTimer l .expires) s = .next t ∧ s.keepsBut [.slu] t ∧
        t.slu = { s.slu with
          timers := s.slu.timers.set l (some 0), inFlight := t.slu.inFlight, lastPolled := t.slu.lastPolled } ∧
        (∀ m, m ≠ l → t.slu.inFlight.get m = s.slu.inFlight.get m ∧ t.slu.lastPolled.get m = s.slu.lastPolled.get m) ∧
        (busy → t.slu.inFlight = s.slu.inFlight ∧ t.slu.lastPolled = s.slu.lastPolled) ∧
        (¬busy → ∀ k : Fin 4,
          let start := match s.slu.lastPolled.get l with
            | none => 0
            | some last => last.val + 1
          let position := fun j : Nat => Fin.ofNat 4 (start + j)
          (∀ j, j < k.val → (s.slu.sensors.get (sensorAt l (position j))).present = false) →
          (s.slu.sensors.get (sensorAt l (position k.val))).present = true →
          t.slu.inFlight.get l = some ⟨position k.val, 0, none⟩ ∧ t.slu.lastPolled.get l = some (position k.val))) ∧
    (line.low.isSome = true → exec (.pollTimer l .falls) s = .next s) ∧
    (line.low = none → receiving →
      exec (.pollTimer l .falls) s =
        .next (s.setSlu { s.slu with lines := s.slu.lines.set l ⟨line.character, some 0⟩ })) ∧
    (line.low = none → ¬receiving →
      ∃ t, exec (.pollTimer l .falls) s = .next t ∧ s.keepsBut [.slu] t ∧
        t.slu = { s.slu with lines := s.slu.lines.set l ⟨some 0, some 0⟩, inFlight := t.slu.inFlight } ∧
        (∀ m, m ≠ l → t.slu.inFlight.get m = s.slu.inFlight.get m) ∧
        t.slu.inFlight.get l = (s.slu.inFlight.get l).map fun q =>
          if q.started = none ∧ 11 * bit ≤ 24576 * q.elapsed then { q with started := some q.elapsed } else q) ∧
    exec (.pollTimer l .rises) s =
      .next (s.setSlu { s.slu with lines := s.slu.lines.set l ⟨line.character, none⟩ }))

/-! ## The fade event -/

/-- A fade event seeds every present cell without a fade level at its goal, moves the others toward their goals by their profiles'
steps and never past them, and posts the configured rows that differ, in ascending order. It leaves absent cells, taken levels, ages
and a frame in flight as they are. -/
def Obligations.FadeEventMovesAndPosts : Prop :=
  ∀ s : State, s.fsc.resetHeld = false → s.fdu.timer.isSome = true →
    ∃ t, exec .fadeEvent s = .next t ∧ s.keepsBut [.lau, .fdu, .llc] t ∧
      t.lau.mode = s.lau.mode ∧ t.fdu.profiles = s.fdu.profiles ∧ t.fdu.timer = some 0 ∧
      t.llc.taken = s.llc.taken ∧ t.llc.ages = s.llc.ages ∧ t.llc.state = s.llc.state ∧ t.llc.interval = s.llc.interval ∧
      (∀ c : Fin 256, s.ct.present c = false →
        t.fdu.levels.get c = s.fdu.levels.get c ∧ t.lau.cells.get c = s.lau.cells.get c) ∧
      (∀ c : Fin 256, s.ct.present c = true → ∃ goal, (t.lau.cells.get c).lastGoal = some goal ∧
        (s.fdu.levels.get c = none → t.fdu.levels.get c = some goal) ∧
        ∀ v, s.fdu.levels.get c = some v →
          let profile := s.fdu.profiles.get (s.ct.cells.get c).profile
          (v < goal → t.fdu.levels.get c = some (min goal (v + profile.up))) ∧
          (goal < v → t.fdu.levels.get c = some (max goal (v - profile.down))) ∧
          (goal = v → t.fdu.levels.get c = some v)) ∧
      (let differs := fun r : Fin 8 => ∃ b : Fin 32, s.ct.present (cellAt r b) = true ∧
        (s.llc.taken.get (cellAt r b) = none ∨ t.fdu.levels.get (cellAt r b) ≠ s.llc.taken.get (cellAt r b))
       (∀ r, differs r → t.rowInHand r) ∧
       (s.llc.flight ≠ none → t.llc = { s.llc with
          queue := s.llc.queue ++ (List.finRange 8).filter fun r => decide (differs r) && !s.llc.queue.contains r }))

/-- Stages 1 to 5 of the level arithmetic for a present cell of a LIVE row with a TARGET or BASE winner: D, with the blind table's
entry for the section's step, or for the fallback step while that is UNKNOWN; the demand, the three cases of stage 3, the quantiser
in each mode, and the floor. -/
def Obligations.FadeEventFormsTargetLevel : Prop :=
  ∀ (s : State) (c : Fin 256) (target : Nat), s.fsc.resetHeld = false → s.fdu.timer.isSome = true →
    s.ct.present c = true → s.ct.frozenCell c = false → 1 ≤ (s.ct.cells.get c).efficacy →
    ((∃ n g, (s.rlu.resolved.get c).winner = .target n g target) ∨
      ((s.rlu.resolved.get c).winner = .base ∧ (s.ct.cells.get c).target = target)) →
    ∃ t, exec .fadeEvent s = .next t ∧
      (let k := s.ct.cells.get c
       let old := s.lau.cells.get c
       let new := t.lau.cells.get c
       let blind := s.dle.attenuation.get (match (s.dle.sections.get k.facade).step with
         | some step => step
         | none => s.dle.fallback)
       let product := (s.effective k.facade).1 * (s.ct.rows.get (rowOf c)).daylightFactor * blind
       let D := min (product / 2560000) 65535
       let L16 := (target - D) * 16000 / k.efficacy
       new.lastDaylight = some D ∧
         (target ≤ D → new.residue = 0 ∧ new.saturated = false ∧ new.shortfall = old.shortfall ∧
           new.lastBase = some k.floor ∧ new.floored = decide (0 < k.floor)) ∧
         (D + k.efficacy ≤ target → new.residue = 0 ∧ new.saturated = true ∧ new.shortfall = true ∧
           new.lastBase = some (max 1000 k.floor) ∧ new.floored = decide (1000 < k.floor)) ∧
         (D < target → target < D + k.efficacy → new.saturated = false ∧ new.shortfall = old.shortfall ∧
           ∃ level, new.lastBase = some (max level k.floor) ∧ new.floored = decide (level < k.floor) ∧
             (s.lau.mode = .chop → level = L16 / 16 ∧ new.residue = old.residue) ∧
             (s.lau.mode = .round → level = (L16 + 8) / 16 ∧ new.residue = old.residue) ∧
             (s.lau.mode = .dither → old.residue ≤ 15 →
               level = (L16 + old.residue) / 16 ∧ new.residue = (L16 + old.residue) % 16)))

/-- A FIXED winner sets the base level directly, with daylight recorded and neither floor nor residue touched; a FROZEN row takes the
held base and leaves daylight, residue and the flags of stages 3 and 5 as they stood; and the limits of stage 6 come after either, and
after a target's: the cap, the shed level while the latch is set, and 0 in STANDBY. -/
def Obligations.FadeEventAppliesLimits : Prop :=
  ∀ (s : State) (c : Fin 256), s.fsc.resetHeld = false → s.fdu.timer.isSome = true → s.ct.present c = true →
    ∃ t, exec .fadeEvent s = .next t ∧
      (let old := s.lau.cells.get c
       let new := t.lau.cells.get c
       let z := s.rlu.resolved.get c
       let shed := s.ct.shedLevelOf c
       (s.ct.frozenCell c = false → ∀ n g level, z.winner = .fixed n g level →
         new.lastBase = some level ∧ new.saturated = false ∧ new.floored = false ∧ new.shortfall = old.shortfall ∧
           new.residue = old.residue ∧ new.lastDaylight.isSome = true) ∧
       (s.ct.frozenCell c = true → ∀ held, s.ct.held.get c = some held →
         new.lastBase = some held ∧ new.saturated = old.saturated ∧ new.floored = old.floored ∧
           new.shortfall = old.shortfall ∧ new.residue = old.residue ∧ new.lastDaylight = old.lastDaylight) ∧
       ∃ base, new.lastBase = some base ∧
         (let capped := match z.cap with
            | none => base
            | some v => min base v
          (new.capped = true ↔ ∃ v, z.cap = some v ∧ v < base) ∧
          (new.shedLimited = true ↔ s.fsc.latch = true ∧ shed < capped) ∧
          new.lastGoal = some (if s.fsc.part = .standby then 0 else if s.fsc.latch = true then min capped shed else capped)))

/-! ## The luminaire link -/

/-- The burst of a configured row as staged: from its lowest present bay to its highest, each present bay's fade level staged for its
cell, and 0 staged for no cell at an absent bay. A BURST of n bays takes 2n + 5 characters of 11 ticks and a closing gap of 22. -/
def Obligations.BurstStagesPresentBays : Prop :=
  ∀ (s : State) (r : Fin 8) (lo hi : Fin 32),
    s.ct.present (cellAt r lo) = true → s.ct.present (cellAt r hi) = true →
    (∀ b : Fin 32, s.ct.present (cellAt r b) = true → lo ≤ b ∧ b ≤ hi) →
    ∃ bays, s.stageBurst r = .burst r lo.val bays ∧ bays.length = hi.val + 1 - lo.val ∧
      Timing.frame (s.stageBurst r) = (2 * bays.length + 5) * 11 + 22 ∧
      ∀ b : Fin 32, lo ≤ b → b ≤ hi →
        (s.ct.present (cellAt r b) = true →
          bays[b.val - lo.val]? = some ⟨(s.fdu.levels.get (cellAt r b)).getD 0, true⟩) ∧
        (s.ct.present (cellAt r b) = false → bays[b.val - lo.val]? = some ⟨0, false⟩)

/-- The frame the link selects when it is free in RUN, line by line (R133), and the due row of greatest age, the lower number among
equals. A ROW_DUE, and an expiry of the re-init timer, prompt a selection on an idle link and leave a busy one's frame as it is. -/
def Obligations.NextFrameByOrder : Prop :=
  (∀ s : State, s.llc.state = .run → s.llc.flight = none →
    s.keepsBut [.llc] s.prompt ∧
    (let clear := { s.llc with pendingShed := false }
     let fly := fun (l : LuminaireLink) (f : Frame) (ticks : Nat) => { l with flight := some ⟨f, 0, ticks, false⟩ }
     (s.llc.pendingShed = true → s.fsc.latch = true →
       s.prompt.llc = fly clear (.shed (s.ct.rows.map RowRecord.shedLevel)) 231) ∧
     ((s.llc.pendingShed = false ∨ s.fsc.latch = false) →
       (s.llc.pendingInit = true → s.prompt.llc = fly { clear with pendingInit := false } .initGroup 264) ∧
       (s.llc.pendingInit = false →
         (s.llc.pendingInterval.isSome = true → s.prompt.llc = fly clear .allTouch 33) ∧
         (s.llc.pendingInterval = none →
           (∀ r, s.dueRow = some r →
             s.prompt.llc =
               if s.rowDiffers r = true ∧ s.rowReady r = true then
                 fly { clear with queue := s.llc.queue.filter (· ≠ r) } (s.stageBurst r) (Timing.frame (s.stageBurst r))
               else fly clear .allTouch 33) ∧
           (s.dueRow = none →
             (∀ passed r rest, s.llc.queue = passed ++ r :: rest → (∀ x ∈ passed, s.rowReady x = false) →
               s.rowReady r = true →
               s.prompt.llc =
                 fly { clear with queue := s.llc.queue.filter (· ≠ r) } (s.stageBurst r) (Timing.frame (s.stageBurst r))) ∧
             ((∀ x ∈ s.llc.queue, s.rowReady x = false) → s.prompt.llc = clear))))))) ∧
  (∀ s : State,
    let due := fun (r : Fin 8) (a : Nat) =>
      s.ct.configured r = true ∧ s.llc.ages.get r = some a ∧ s.llc.interval * 125 ≤ 2 * a
    (s.dueRow = none ↔ ∀ r a, ¬due r a) ∧
    ∀ r, s.dueRow = some r → ∃ a, due r a ∧ ∀ r' a', due r' a' → a' < a ∨ (a' = a ∧ r ≤ r')) ∧
  (∀ (s : State) (r : Fin 8) (a : Nat), s.fsc.resetHeld = false → s.llc.state = .run → s.llc.ages.get r = some a →
    let marked := { s.llc with ages := s.llc.ages.set r (some (max a ((s.llc.interval * 125 + 1) / 2))) }
    exec (.rowDue r) s = .next (s.setLlc marked).prompt ∧
      (s.llc.flight ≠ none → exec (.rowDue r) s = .next (s.setLlc marked))) ∧
  (∀ s : State, s.fsc.resetHeld = false → s.llc.reInit.isSome = true →
    let marked := { s.llc with reInit := some 0, pendingInit := true }
    exec .reInitTimer s = .next (s.setLlc marked).prompt ∧
      (s.llc.flight ≠ none → exec .reInitTimer s = .next (s.setLlc marked)))

/-- The completion of each frame is its effects, and with them the link free and the next frame selected in the order of the table: an
INIT group makes every taken level absent, posts every configured row and, in INIT, takes link and part to RUN; a BURST sets the taken
levels of its staged present cells and its row's age to 0, and posts the row if it still differs; an ALL-TOUCH and a SHED set every
configured age to 0 and make a pending interval R, and a SHED brings taken levels down to its staged levels; a cut frame changes no
taken level and no age, and posts its row or has its INIT group sent again. Nothing else of the link changes, so that with a SHED
pending and the latch set every completion in RUN is followed by the SHED frame. -/
def Obligations.FramesComplete : Prop :=
  ∀ (s : State) (f : Flight), s.fsc.resetHeld = false → s.llc.flight = some f →
    let free := { s.llc with flight := none }
    let post := fun r : Fin 8 => if r ∈ s.llc.queue then s.llc.queue else s.llc.queue ++ [r]
    let shedNext := fun t : State => s.llc.pendingShed = true → s.fsc.latch = true →
      t.llc.pendingShed = false ∧ t.llc.flight = some ⟨.shed (s.ct.rows.map RowRecord.shedLevel), 0, 231, false⟩
    (f.frame = .initGroup → f.cut = false →
      ∃ e t, exec .initGroupComplete s = .next t ∧ t = e.prompt ∧
        e.llc = { free with
          taken := e.llc.taken,
          queue := s.llc.queue ++ (List.finRange 8).filter fun r => s.ct.configured r && !s.llc.queue.contains r,
          state := if s.llc.state = .init then .run else s.llc.state,
          reInit := if s.llc.state = .init then some 0 else s.llc.reInit } ∧
        (∀ c : Fin 256, e.llc.taken.get c = none) ∧ (∀ r, s.ct.configured r = true → t.rowInHand r) ∧
        (s.llc.state = .init → s.keepsBut [.llc, .fdu, .fsc] e ∧ e.fdu = { s.fdu with timer := some 0 } ∧
          e.fsc = { s.fsc with part := .run } ∧ shedNext t) ∧
        (s.llc.state ≠ .init → s.keepsBut [.llc] e) ∧ (s.llc.state = .run → shedNext t)) ∧
    (∀ r first bays, f.frame = .burst r first bays → f.cut = false →
      ∃ e t, exec .burstComplete s = .next t ∧ t = e.prompt ∧ s.keepsBut [.llc] e ∧
        (let differs := ∃ b : Fin 32, s.ct.present (cellAt r b) = true ∧
          (e.llc.taken.get (cellAt r b) = none ∨ s.fdu.levels.get (cellAt r b) ≠ e.llc.taken.get (cellAt r b))
         (differs → e.llc = { free with taken := e.llc.taken, ages := e.llc.ages, queue := post r } ∧ t.rowInHand r) ∧
         (¬differs → e.llc = { free with taken := e.llc.taken, ages := e.llc.ages })) ∧
        (∀ c : Fin 256, e.llc.taken.get c =
          if rowOf c = r ∧ s.ct.present c = true ∧ first ≤ (bayOf c).val ∧
              (bays[(bayOf c).val - first]?.map StagedBay.staged) = some true then
            bays[(bayOf c).val - first]?.map StagedBay.level
          else s.llc.taken.get c) ∧
        (∀ x, e.llc.ages.get x = if x = r ∧ s.ct.configured r = true then some 0 else s.llc.ages.get x) ∧
        (s.llc.state = .run → shedNext t)) ∧
    (f.frame = .allTouch → f.cut = false →
      ∃ e t, exec .allTouchComplete s = .next t ∧ t = e.prompt ∧ s.keepsBut [.llc] e ∧
        e.llc = { free with
          ages := e.llc.ages, interval := s.llc.pendingInterval.getD s.llc.interval, pendingInterval := none } ∧
        (∀ r, e.llc.ages.get r = if s.ct.configured r = true then some 0 else s.llc.ages.get r) ∧
        (s.llc.state = .run → shedNext t)) ∧
    (∀ levels, f.frame = .shed levels → f.cut = false →
      ∃ e t, exec .shedFrameComplete s = .next t ∧ t = e.prompt ∧ s.keepsBut [.llc] e ∧
        e.llc = { free with
          taken := e.llc.taken, ages := e.llc.ages, interval := s.llc.pendingInterval.getD s.llc.interval,
          pendingInterval := none } ∧
        (∀ c : Fin 256, e.llc.taken.get c =
          if s.ct.present c = true then (s.llc.taken.get c).map fun v => min v (levels.get (rowOf c))
          else s.llc.taken.get c) ∧
        (∀ r, e.llc.ages.get r = if s.ct.configured r = true then some 0 else s.llc.ages.get r) ∧
        (s.llc.state = .run → shedNext t)) ∧
    (f.cut = true →
      ∃ e t, exec .cutFrameComplete s = .next t ∧ t = e.prompt ∧ s.keepsBut [.llc] e ∧
        (∀ r first bays, f.frame = .burst r first bays →
          (s.ct.configured r = true → e.llc = { free with queue := post r } ∧ t.rowInHand r) ∧
          (s.ct.configured r = false → e.llc = free)) ∧
        (f.frame = .initGroup → e.llc = { free with pendingInit := true } ∧
          (t.llc.pendingInit = true ∨ ∃ g, t.llc.flight = some g ∧ g.frame = .initGroup ∧ g.cut = false)) ∧
        (f.frame = .allTouch ∨ (∃ levels, f.frame = .shed levels) → e.llc = free) ∧
        (s.llc.state = .run → shedNext t))

/-- A joined driver that receives a whole BURST applies its bay's level when the burst is its row's and reaches its bay, and otherwise
keeps its level; a driver that receives any part of a burst short of its TAKE, and then a whole SHED frame, applies the smaller of the
level it had and its row's shed level. So the taken levels that BURST_COMPLETE records are what the drivers applied. LTX carries the
characters of the frame in flight, 11 bits each, and rests high after them. The driver is the model's partner of the part (log 20). -/
def Obligations.DriversFollowTheFrames : Prop :=
  (∀ (d : Driver) (r : Fin 8) (first : Nat) (bays : List StagedBay), d.joined = true → first + bays.length ≤ 32 →
    (∀ b ∈ bays, b.level ≤ 1000) →
    let d' := d.receiveAll (Frame.burst r first bays).characters
    (d'.row = d.row ∧ d'.bay = d.bay ∧ d'.frame = .closed) ∧
    (d.row ≠ r → d'.applied = d.applied ∧ d'.window = d.window) ∧
    (d.row = r → d'.window = 0 ∧
      d'.applied = if first ≤ d.bay.val then ((bays[d.bay.val - first]?).map StagedBay.level).getD d.applied else d.applied)) ∧
  (∀ (d : Driver) (r : Fin 8) (first : Nat) (bays : List StagedBay) (sent : Nat) (levels : Table Nat 3),
    d.joined = true → first + bays.length ≤ 32 → sent < (Frame.burst r first bays).characters.length →
    (∀ x : Fin 8, levels.get x ≤ 1000) →
    let d' := d.receiveAll ((Frame.burst r first bays).characters.take sent ++ (Frame.shed levels).characters)
    d'.applied = min d.applied (levels.get d.row) ∧ d'.window = 0) ∧
  (∀ (s t : State) (f : Flight) (r : Fin 8) (first : Nat) (bays : List StagedBay) (d : Driver),
    s.fsc.resetHeld = false → s.llc.flight = some f → f.cut = false → f.frame = .burst r first bays →
    first + bays.length ≤ 32 → (∀ b ∈ bays, b.level ≤ 1000) → exec .burstComplete s = .next t →
    d.joined = true → d.row = r → s.ct.present (cellAt r d.bay) = true → first ≤ d.bay.val →
    (bays[d.bay.val - first]?.map StagedBay.staged) = some true →
    t.llc.taken.get (cellAt r d.bay) = some (d.receiveAll f.frame.characters).applied) ∧
  (∀ (s : State) (f : Flight), s.llc.state ≠ .off → s.llc.flight = some f → f.cut = false →
    let unit := if f.frame = .initGroup then 33 else 11
    (∀ c, f.frame.characters[f.elapsed / unit]? = some c → s.ltx = (linkLineBits c).getD (f.elapsed % unit) true) ∧
    (f.frame.characters.length * unit ≤ f.elapsed → s.ltx = true))

/-! ## Floor states and load shed -/

/-- NIGHT in RUN takes the part to STANDBY: polling stops, polls in flight are abandoned, every present sensor becomes WAITING with
its counts at 0 and its section unseeded. DAY in STANDBY takes it back to RUN with polling enabled, each link's rotation starting at
its lowest present position. NIGHT in STANDBY and DAY in RUN are answered DONE and change nothing but the ZBI. -/
def Obligations.NightAndDay : Prop :=
  (∀ (s : State) (source : Byte) (n : Fin 8), s.Takes .night source [] n →
    (s.fsc.part = .standby → exec (.night source []) s = .next (s.setZbi (repliedWith s.zbi .done []))) ∧
    (s.fsc.part = .run → ∃ t, exec (.night source []) s = .next t ∧ s.keepsBut [.fsc, .slu, .dle, .zbi] t ∧
      t.zbi = repliedWith s.zbi .done [] ∧ t.fsc = { s.fsc with part := .standby } ∧ t.slu.polling = false ∧
      t.slu.settings = s.slu.settings ∧
      t.slu.lines = s.slu.lines ∧
      (∀ l : Fin 4, t.slu.timers.get l = none ∧ t.slu.inFlight.get l = none) ∧
      t.dle = { s.dle with sections := t.dle.sections } ∧
      ∀ i : Fin 16,
        ((s.slu.sensors.get i).present = true →
          t.slu.sensors.get i = { s.slu.sensors.get i with health := .waiting, errors := 0, since := 0, run := 0 } ∧
            t.dle.sections.get i = { s.dle.sections.get i with filtered := none }) ∧
        ((s.slu.sensors.get i).present = false →
          t.slu.sensors.get i = s.slu.sensors.get i ∧ t.dle.sections.get i = s.dle.sections.get i))) ∧
  (∀ (s : State) (source : Byte) (n : Fin 8), s.Takes .day source [] n →
    (s.fsc.part = .run → exec (.day source []) s = .next (s.setZbi (repliedWith s.zbi .done []))) ∧
    (s.fsc.part = .standby → ∃ t, exec (.day source []) s = .next t ∧ s.keepsBut [.fsc, .slu, .zbi] t ∧
      t.zbi = repliedWith s.zbi .done [] ∧ t.fsc = { s.fsc with part := .run } ∧ t.slu.polling = true ∧
      t.slu.sensors = s.slu.sensors ∧ t.slu.settings = s.slu.settings ∧ t.slu.lines = s.slu.lines ∧
      ∀ l : Fin 4, t.slu.timers.get l = (if s.slu.running l then some 0 else none) ∧ t.slu.lastPolled.get l = none))

/-- A change of SHEDn's level breaks the time for which the line has stood; after 1 ms at a level, 125 ticks, that level is observed, as
asserted or released. The shed latch: SHED and the asserted line set it with its hand-offs as one change, once; the released line
leaves it; SHED CLEAR is refused while the line is asserted and else clears it. A BURST or INIT group whose closing character has not been sent is
cut at the end of its character on the line, or at once in an inner gap of an INIT group; it ends a closing gap later, with LTX high
for that gap. -/
def Obligations.ShedLatchSetAndCleared : Prop :=
  (∀ (s : State) (source : Byte) (n : Fin 8), s.Takes .shed source [] n →
    (s.fsc.latch = true → exec (.shed source []) s = .next (s.setZbi (repliedWith s.zbi .doneNothing []))) ∧
    (s.fsc.latch = false → ∃ t, exec (.shed source []) s = .next t ∧ s.keepsBut [.fsc, .fdu, .llc, .zbi] t ∧
      t.zbi = repliedWith s.zbi .done [] ∧ t.fsc = { s.fsc with latch := true } ∧ s.ShedFollows t)) ∧
  (∀ s : State, s.fsc.resetHeld = false → s.fsc.lineAsserted = false →
    (s.fsc.latch = true → exec .shednAsserted s =
      .next (s.setFsc { s.fsc with lineAsserted := true, shedn := false, steady := 125 })) ∧
    (s.fsc.latch = false → ∃ t, exec .shednAsserted s = .next t ∧ s.keepsBut [.fsc, .fdu, .llc] t ∧
      t.fsc = { s.fsc with lineAsserted := true, latch := true, shedn := false, steady := 125 } ∧ s.ShedFollows t)) ∧
  (∀ s : State, s.fsc.resetHeld = false → s.fsc.lineAsserted = true →
    exec .shednAsserted s = .next (s.setFsc { s.fsc with shedn := false, steady := 125 })) ∧
  (∀ s : State, s.fsc.resetHeld = false →
    exec .shednReleased s = .next (s.setFsc { s.fsc with lineAsserted := false, shedn := true, steady := 125 })) ∧
  (∀ (s : State) (high : Bool), exec (.addressByte (.shedn high)) s =
    .next (if high = s.fsc.shedn then s else s.setFsc { s.fsc with shedn := high, steady := 0 })) ∧
  (∀ (s : State) (source : Byte) (n : Fin 8), s.Takes .shedClear source [] n →
    exec (.shedClear source []) s = .next
      (if s.fsc.lineAsserted = true then s.setZbi (repliedWith s.zbi .refusedState [])
       else if s.fsc.latch = true then
         (s.setFsc { s.fsc with latch := false }).setZbi (repliedWith s.zbi .done [])
       else s.setZbi (repliedWith s.zbi .doneNothing []))) ∧
  (∀ f : Flight,
    (cuttable f = true ↔ f.cut = false ∧
      match f.frame with
      | .initGroup => f.elapsed < 7 * 33 + 11
      | .burst _ _ bays => f.elapsed < (2 * bays.length + 5) * 11
      | .allTouch => False
      | .shed _ => False) ∧
    (cutFlight f).cut = true ∧ (cutFlight f).frame = f.frame ∧ (cutFlight f).elapsed = f.elapsed ∧
    (∀ r first bays, f.frame = .burst r first bays →
      ∃ sent, f.elapsed < sent * 11 ∧ sent * 11 ≤ f.elapsed + 11 ∧ (cutFlight f).ends = sent * 11 + 22) ∧
    (f.frame = .initGroup →
      (∀ sent, sent * 33 ≤ f.elapsed → f.elapsed < sent * 33 + 11 → (cutFlight f).ends = sent * 33 + 33) ∧
      (∀ sent, sent * 33 + 11 ≤ f.elapsed → f.elapsed < sent * 33 + 33 → (cutFlight f).ends = f.elapsed + 22)) ∧
    (f.cut = true → f.ends ≤ f.elapsed + 22 → ∀ s : State, s.llc.flight = some f → s.ltx = true))

/-! ## Settings -/

/-- WRITE MASTER SLOT, in the order of its checks: format, address held elsewhere, last COMMISSIONING slot. An accepted write replaces
the slot, an EMPTY one as address 00h and priority 0, and purges the slot's entries from the request list. The class codes are 0 to
4 in the order EMPTY, COMMISSIONING, SUPERVISOR, OCCUPANT, BLIND. -/
def Obligations.MasterSlotWritten : Prop :=
  (∀ (code : Nat) (role : Role), Role.ofCode code = some role ↔ code =
    match role with
    | .empty => 0 | .commissioning => 1 | .supervisor => 2 | .occupant => 3 | .blind => 4) ∧
  ∀ (s : State) (source slot klass address priority : Byte) (n : Fin 8),
    s.Takes .writeMasterSlot source [slot, klass, address, priority] n → s.Listed →
    let c : Instr := .writeMasterSlot source [slot, klass, address, priority]
    let m : Fin 8 := Fin.ofNat 8 slot.toNat
    let refused := fun status => exec c s = .next (s.setZbi (repliedWith s.zbi status []))
    let another := ∃ x : Fin 8, x ≠ m ∧ (s.zbi.slots.get x).role = .commissioning
    let held := (∃ x : Fin 8, x ≠ m ∧ (s.zbi.slots.get x).role ≠ .empty ∧ (s.zbi.slots.get x).address = address) ∨
      address = s.zbi.own ∨ some address = s.zbi.pendingOwn
    let stored := fun (status : Status) (new : MasterSlot) =>
      ∃ t, exec c s = .next t ∧ s.keepsBut [.rlu, .zbi] t ∧
        t.zbi = { repliedWith s.zbi status [] with slots := s.zbi.slots.set m new } ∧
        relisted s t (s.rlu.list.filter fun e => !decide (e.slot = m))
    ((7 < slot.toNat ∨ 4 < klass.toNat) → refused .refusedFormat) ∧
    (slot.toNat ≤ 7 → klass = 0 → (another → stored .done ⟨.empty, 0, 0⟩) ∧ (¬another → refused .refusedState)) ∧
    (slot.toNat ≤ 7 → ∀ role, Role.ofCode klass.toNat = some role → role ≠ .empty →
      ((address.toNat < 0x08 ∨ 0x77 < address.toNat) → refused .refusedFormat) ∧
      (0x08 ≤ address.toNat → address.toNat ≤ 0x77 →
        (held → refused .refusedState) ∧
        (¬held → role ≠ .commissioning → ¬another → refused .refusedState) ∧
        (¬held → (role = .commissioning ∨ another) →
          stored (if 7 < priority.toNat then .doneClamped else .done)
            ⟨role, address, Fin.ofNat 8 (min priority.toNat 7)⟩)))

/-- WRITE PROFILE stores both steps, clamped to 1..1000. WRITE SENSOR stores the filter shift, clamped to 7, without reseeding, and a
changed present flag clears the sensor's record, unseeds its section, abandons its poll and starts or stops its link; a link that
starts has its rotation at its lowest present position. -/
def Obligations.ProfileAndSensorWritten : Prop :=
  (∀ (s : State) (source : Byte) (p : List Byte) (n : Fin 8), s.Takes .writeProfile source p n →
    (7 < byteAt p 0 → exec (.writeProfile source p) s = .next (s.setZbi (repliedWith s.zbi .refusedFormat []))) ∧
    (byteAt p 0 ≤ 7 →
      let step := fun v : Nat => if v = 0 then 1 else if 1000 < v then 1000 else v
      ∃ t, exec (.writeProfile source p) s = .next t ∧ s.keepsBut [.fdu, .zbi] t ∧
        t.fdu = { s.fdu with
          profiles := s.fdu.profiles.set (Fin.ofNat 8 (byteAt p 0)) ⟨step (halfAt p 1), step (halfAt p 3)⟩ } ∧
        t.zbi = repliedWith s.zbi
          (if step (halfAt p 1) ≠ halfAt p 1 ∨ step (halfAt p 3) ≠ halfAt p 3 then .doneClamped else .done) [])) ∧
  (∀ (s : State) (source sensor flag shift : Byte) (n : Fin 8), s.Takes .writeSensor source [sensor, flag, shift] n →
    let c : Instr := .writeSensor source [sensor, flag, shift]
    (15 < sensor.toNat → exec c s = .next (s.setZbi (repliedWith s.zbi .refusedFormat []))) ∧
    (sensor.toNat ≤ 15 →
      let i : Fin 16 := Fin.ofNat 16 sensor.toNat
      let l : Fin 4 := linkOf i
      let old := s.slu.sensors.get i
      let present := decide (flag ≠ 0)
      let sec' := { s.dle.sections.get i with shift := min shift.toNat 7 }
      ∃ t, exec c s = .next t ∧ s.keepsBut [.slu, .dle, .zbi] t ∧
        t.zbi = repliedWith s.zbi (if 1 < flag.toNat ∨ 7 < shift.toNat then .doneClamped else .done) [] ∧
        t.slu.settings = s.slu.settings ∧ t.slu.polling = s.slu.polling ∧ t.slu.lines = s.slu.lines ∧
        t.dle = { s.dle with sections := t.dle.sections } ∧
        (∀ j, j ≠ i → t.slu.sensors.get j = s.slu.sensors.get j ∧ t.dle.sections.get j = s.dle.sections.get j) ∧
        (present = old.present → t.slu = s.slu ∧ t.dle.sections.get i = sec') ∧
        (present ≠ old.present →
          t.slu.sensors.get i = Sensor.cleared present ∧ t.dle.sections.get i = { sec' with filtered := none } ∧
            ((s.slu.inFlight.get l).map Poll.position = some (positionOf i) → t.slu.inFlight.get l = none) ∧
            (∀ m, (s.slu.inFlight.get m).map Poll.position ≠ some (positionOf i) ∨ m ≠ l →
              t.slu.inFlight.get m = s.slu.inFlight.get m) ∧
            (∀ m,
              let starts := s.slu.running m = false ∧ t.slu.running m = true
              let stops := s.slu.running m = true ∧ t.slu.running m = false
              (starts → t.slu.timers.get m = (if s.slu.polling then some 0 else none) ∧ t.slu.lastPolled.get m = none) ∧
              (stops → t.slu.timers.get m = none) ∧
              (¬starts → ¬stops →
                t.slu.timers.get m = s.slu.timers.get m ∧ t.slu.lastPolled.get m = s.slu.lastPolled.get m)))))

/-- The four steps of R24 on link settings as written, and what they give: a bit rate of at least 2400 bit/s on every link, and no
change to settings that already have their ranges. WRITE LINKS refuses an unknown clock select, refuses a change to a running link,
and else stores the result. -/
def Obligations.LinkSettingsClampedAndWritten : Prop :=
  (∀ n0 n1 : Nat, selectedN n0 n1 .lc0 = n0 ∧ selectedN n0 n1 .lc1 = n1 ∧ clockHz n0 = 4915200 / 2 ^ n0) ∧
  (∀ w : LinkSettings,
    let n0 := if 9 < min w.n0 11 ∧ 9 < min w.n1 11 then 9 else min w.n0 11
    let n1 := min w.n1 11
    w.clamped.n0 = n0 ∧ w.clamped.n1 = n1 ∧
    (∀ l : Fin 4,
      let select := (w.links.get l).select
      let chosen := if 9 < selectedN n0 n1 select then select.other else select
      let hz := clockHz (selectedN n0 n1 chosen)
      let q := max (w.links.get l).divisor 4
      w.clamped.links.get l = ⟨chosen, if hz < 2400 * q then hz / 2400 else q⟩) ∧
    ((∀ l : Fin 4, (w.links.get l).divisor ≤ 255) → linksOk w.clamped) ∧
    (linksOk w → w.clamped = w)) ∧
  (∀ (s : State) (source : Byte) (p : List Byte) (n : Fin 8), s.Takes .writeLinks source p n →
    ((∃ l : Fin 4, 1 < byteAt p (2 + 2 * l.val)) →
      exec (.writeLinks source p) s = .next (s.setZbi (repliedWith s.zbi .refusedFormat []))) ∧
    ((∀ l : Fin 4, byteAt p (2 + 2 * l.val) ≤ 1) →
      let w : LinkSettings :=
        { n0 := byteAt p 0, n1 := byteAt p 1,
          links := .ofFn fun l : Fin 4 => ⟨if byteAt p (2 + 2 * l.val) = 0 then .lc0 else .lc1, byteAt p (3 + 2 * l.val)⟩ }
      let busy := ∃ l : Fin 4, s.slu.running l = true ∧
        (((s.slu.settings.links.get l).select = .lc0 ∧ w.clamped.n0 ≠ s.slu.settings.n0) ∨
          ((s.slu.settings.links.get l).select = .lc1 ∧ w.clamped.n1 ≠ s.slu.settings.n1) ∨
          w.clamped.links.get l ≠ s.slu.settings.links.get l)
      (busy → exec (.writeLinks source p) s = .next (s.setZbi (repliedWith s.zbi .refusedBusy []))) ∧
      (¬busy → ∃ t, exec (.writeLinks source p) s = .next t ∧ s.keepsBut [.slu, .zbi] t ∧
        t.slu = { s.slu with settings := w.clamped } ∧
        t.zbi = repliedWith s.zbi (if w.clamped = w then .done else .doneClamped) [])))

/-- WRITE PART: the checks in order; then a differing own address becomes pending, a changed mode sets every residue to 0, and the
clamped interval becomes R at once when it is at least R, and is pending otherwise. A written interval below 200 is taken as 200, one
above 2000 as 2000, and one between them down to a multiple of 100. The mode codes are 0 CHOP, 1 ROUND, 2 DITHER. -/
def Obligations.PartWritten : Prop :=
  (∀ (code : Nat) (m : QuantMode), QuantMode.ofCode code = some m ↔ code =
    match m with
    | .chop => 0 | .round => 1 | .dither => 2) ∧
  (∀ v : Nat, intervalOk (clampInterval v) ∧ (intervalOk v → clampInterval v = v) ∧
    (v < 200 → clampInterval v = 200) ∧ (2000 < v → clampInterval v = 2000) ∧
    (200 ≤ v → v ≤ 2000 → clampInterval v ≤ v ∧ v < clampInterval v + 100)) ∧
  ∀ (s : State) (source own mode hi lo : Byte) (n : Fin 8), s.Takes .writePart source [own, mode, hi, lo] n →
    let c : Instr := .writePart source [own, mode, hi, lo]
    let refused := fun status => exec c s = .next (s.setZbi (repliedWith s.zbi status []))
    let written := hi.toNat * 256 + lo.toNat
    let v := clampInterval written
    let taken := ∃ x : Fin 8, (s.zbi.slots.get x).role ≠ .empty ∧ (s.zbi.slots.get x).address = own
    ((own.toNat < 0x08 ∨ 0x77 < own.toNat) → refused .refusedFormat) ∧
    (0x08 ≤ own.toNat → own.toNat ≤ 0x77 → 2 < mode.toNat → refused .refusedFormat) ∧
    (0x08 ≤ own.toNat → own.toNat ≤ 0x77 → mode.toNat ≤ 2 → taken → refused .refusedState) ∧
    (∀ m, 0x08 ≤ own.toNat → own.toNat ≤ 0x77 → QuantMode.ofCode mode.toNat = some m → ¬taken →
      ∃ t, exec c s = .next t ∧ s.keepsBut [.lau, .llc, .zbi] t ∧
        t.zbi = { repliedWith s.zbi (if v = written then .done else .doneClamped) [] with
          pendingOwn := if own = s.zbi.own then s.zbi.pendingOwn else some own } ∧
        t.lau.mode = m ∧
        (∀ x : Fin 256, t.lau.cells.get x =
          if m = s.lau.mode then s.lau.cells.get x else { s.lau.cells.get x with residue := 0 }) ∧
        (s.llc.interval ≤ v → t.llc = { s.llc with interval := v, pendingInterval := none }) ∧
        (v < s.llc.interval → t.llc.interval = s.llc.interval ∧ t.llc.pendingInterval = some v ∧
          (s.llc.flight ≠ none → t.llc = { s.llc with pendingInterval := some v })))

/-- SAVE SETTINGS takes a snapshot of the settings and makes the check word invalid, or is refused while a save is under way; its
completion writes the snapshot with its check word; and RESTART is refused while a save is under way, and else sets restart pending. -/
def Obligations.SaveAndRestart : Prop :=
  (∀ (s : State) (source : Byte) (n : Fin 8), s.Takes .saveSettings source [] n →
    (s.sst.saving.isSome = true →
      exec (.saveSettings source []) s = .next (s.setZbi (repliedWith s.zbi .refusedBusy []))) ∧
    (s.sst.saving = none → ∃ t, exec (.saveSettings source []) s = .next t ∧ s.keepsBut [.sst, .zbi] t ∧
      t.zbi = repliedWith s.zbi .done [] ∧
      t.sst = { s.sst with saving := some ⟨s.live.stored, 0⟩, store := { s.sst.store with check := none } } ∧
      t.sst.store.good = false)) ∧
  (∀ (s : State) (v : Saving), s.fsc.resetHeld = false → s.sst.saving = some v →
    exec .saveComplete s = .next (s.setSst
      { s.sst with
        store := ⟨v.snapshot, some (~~~ BitVec.ofNat 16 ((v.snapshot.bytes.map BitVec.toNat).sum))⟩,
        saving := none, unconfigured := false })) ∧
  (∀ (s : State) (source : Byte) (n : Fin 8), s.Takes .restart source [] n →
    (s.sst.saving.isSome = true → exec (.restart source []) s = .next (s.setZbi (repliedWith s.zbi .refusedBusy []))) ∧
    (s.sst.saving = none →
      exec (.restart source []) s = .next
        ((s.setFsc { s.fsc with restartPending := true }).setZbi (repliedWith s.zbi .done []))))

/-- Settings saved to the end survive a full reset: after SAVE SETTINGS, its completion, POWER_ON and LOAD_COMPLETE, every setting
is as it was and the part is not unconfigured. A reset before the completion gives the factory defaults and the unconfigured
indicator. The statement is of master tables whose every address in use lies in 08h..77h, as the test of a stored table has it,
which the factory table's 7Eh does not (log 11). -/
def Obligations.SavedSettingsSurviveReset : Prop :=
  ∀ (s saving saved up loaded lost bare : State) (source : Byte) (n : Fin 8),
    s.Takes .saveSettings source [] n → s.sst.saving = none → s.Ranges → s.Masters →
    (∀ m : Fin 8, (s.zbi.slots.get m).role ≠ .empty → addressOk (s.zbi.slots.get m).address = true) →
    exec (.saveSettings source []) s = .next saving →
    exec .saveComplete saving = .next saved → exec .powerOn saved = .next up → exec .loadComplete up = .next loaded →
    exec .powerOn saving = .next lost → exec .loadComplete lost = .next bare →
    loaded.live = s.live ∧ loaded.sst.unconfigured = false ∧ bare.live = Live.factory ∧ bare.sst.unconfigured = true

/-! ## Reads -/

/-- The five reads change nothing but the ZBI, and answer what they are asked: READ STATUS its eight bytes; READ SECTIONS and READ
SENSORS four bytes an item and READ CELLS four or two bytes a cell, cut short with DONE_CLAMPED; READ REQUESTS the list count and up
to six entries of ten bytes. Every byte is spelled from the record it shows. An absent cell shows absent levels, goal and daylight,
and every flag clear. -/
def Obligations.ReadsReportAndChangeNothing : Prop :=
  let byte := BitVec.ofNat 8
  let half := fun v : Nat => [byte (v / 256), byte v]
  let flag := fun (b : Bool) (weight : Nat) => if b then weight else 0
  (∀ (s : State) (source : Byte) (n : Fin 8), s.Takes .readStatus source [] n →
    exec (.readStatus source []) s = .next (s.setZbi (repliedWith s.zbi .done
      ([byte (match s.fsc.part with
          | .starting => 0
          | .run => 1
          | .standby => 2),
        byte (flag s.fsc.latch 1 + flag s.fsc.lineAsserted 2 + flag s.sst.unconfigured 4 + flag s.sst.saving.isSome 8),
        byte (match s.llc.state with
          | .off => 0
          | .init => 1
          | .run => 2),
        byte s.llc.queue.length, byte s.rlu.list.length,
        byte (match s.lau.mode with
          | .chop => 0
          | .round => 1
          | .dither => 2)] ++ half s.llc.interval)))) ∧
  (∀ (s : State) (source : Byte) (p : List Byte) (n : Fin 8) (c : Instr) (item : Fin 16 → List Byte),
    (c = .readSections source p ∧ s.Takes .readSections source p n ∧ item = fun i =>
        let x := s.dle.sections.get i
        half ((s.effective i).1 / 4) ++
          [byte ((match (s.effective i).2 with
              | .own => 0
              | .lower => 64
              | .upper => 128
              | .dark => 192) + flag x.filtered.isSome 32 +
            (match x.step with
              | none => 31
              | some step => step.val)),
           byte (match x.hold with
              | none => 0
              | some hold => min hold 255)]) ∨
      (c = .readSensors source p ∧ s.Takes .readSensors source p n ∧ item = fun i =>
        let x := s.slu.sensors.get i
        let count := (x.sample.map Sample.count).getD 0
        [byte ((match x.health with
              | .absent => 0
              | .waiting => 32
              | .fresh => 64
              | .stale => 96
              | .failed => 128
              | .recovering => 160) +
            (match x.lastError with
              | none => 0
              | some .parity => 4
              | some .framing => 8
              | some .check => 12
              | some .noReply => 16
              | some .sensorFault => 20) + flag x.saturated 2 + flag x.sample.isSome 1),
         byte (x.errors * 16 + count / 256), byte count, byte ((x.sample.map Sample.range).getD 0)]) →
    ((15 < byteAt p 0 ∨ byteAt p 1 = 0 ∨ 16 < byteAt p 1) →
      exec c s = .next (s.setZbi (repliedWith s.zbi .refusedFormat []))) ∧
    (byteAt p 0 ≤ 15 → 1 ≤ byteAt p 1 → byteAt p 1 ≤ 16 →
      ∃ data, exec c s = .next (s.setZbi (repliedWith s.zbi
          (if 16 < byteAt p 0 + byteAt p 1 then .doneClamped else .done) data)) ∧
        data.length = 4 * min (byteAt p 1) (16 - byteAt p 0) ∧
        ∀ i : Fin 16, byteAt p 0 ≤ i.val → i.val < byteAt p 0 + byteAt p 1 →
          (data.drop (4 * (i.val - byteAt p 0))).take 4 = item i)) ∧
  (∀ (s : State) (source : Byte) (p : List Byte) (n : Fin 8), s.Takes .readCells source p n →
    ((7 < byteAt p 0 ∨ 31 < byteAt p 1 ∨ byteAt p 2 = 0 ∨ 32 < byteAt p 2 ∨ 4 < byteAt p 3) →
      exec (.readCells source p) s = .next (s.setZbi (repliedWith s.zbi .refusedFormat []))) ∧
    (byteAt p 0 ≤ 7 → byteAt p 1 ≤ 31 → 1 ≤ byteAt p 2 → byteAt p 2 ≤ 32 → byteAt p 3 ≤ 4 →
      let width := if byteAt p 3 = 0 then 4 else 2
      let shown := min (byteAt p 2) (min (32 - byteAt p 1) (if byteAt p 3 = 0 then 16 else 32))
      let level := fun v : Option Nat => half (v.getD 0xFFFF)
      ∃ data, exec (.readCells source p) s = .next (s.setZbi (repliedWith s.zbi
          (if shown < byteAt p 2 then .doneClamped else .done) data)) ∧
        data.length = width * shown ∧
        ∀ c : Fin 256, (rowOf c).val = byteAt p 0 → byteAt p 1 ≤ (bayOf c).val → (bayOf c).val < byteAt p 1 + shown →
          let z := s.rlu.resolved.get c
          let r := s.lau.cells.get c
          (data.drop (width * ((bayOf c).val - byteAt p 1))).take width =
            match byteAt p 3 with
            | 0 => level (s.fdu.levels.get c) ++ level (s.llc.taken.get c)
            | 1 => half ((match z.winner with
                | .base => 0
                | .target _ _ _ => 2 ^ 14
                | .fixed _ _ _ => 2 ^ 15) + r.lastGoal.getD 0x3FF)
            | 2 => half (match z.winner with
                | .base => (s.ct.cells.get c).target
                | .target _ _ lux => lux
                | .fixed _ _ v => v)
            | 3 => level (r.lastDaylight.map fun v => min v 65534)
            | _ => half (if s.ct.present c = true then
                1 + flag r.saturated 2 + flag r.shortfall 4 + flag r.floored 8 + flag r.capped 16 + flag r.shedLimited 32 +
                  flag (s.ct.frozenCell c) 64 else 0))) ∧
  (∀ (s : State) (source start : Byte) (n : Fin 8), s.Takes .readRequests source [start] n →
    (47 < start.toNat → exec (.readRequests source [start]) s = .next (s.setZbi (repliedWith s.zbi .refusedFormat []))) ∧
    (start.toNat ≤ 47 → exec (.readRequests source [start]) s = .next (s.setZbi (repliedWith s.zbi .done
      (byte s.rlu.list.length :: ((s.rlu.list.drop start.toNat).take 6).flatMap fun e =>
        [byte (e.slot.val * 16 + e.tag.val),
         byte ((match e.kind with
              | .target => 0
              | .fixed => 64
              | .cap => 128) +
            (match e.selector with
              | .all => 0
              | .mask _ => 16
              | .rect _ _ _ _ => 32
              | .cell _ => 48) + flag e.hold.isNone 8 + e.priority.val)] ++
          half e.value ++
          (match e.selector with
            | .all => [0, 0]
            | .mask groups => [0, groups]
            | .rect r0 r1 b0 b1 => half (r0 * 2 ^ 13 + r1 * 2 ^ 10 + b0 * 2 ^ 5 + b1)
            | .cell number => [0, byte number.val]) ++ half (e.hold.getD 0) ++ half e.coverage))))) ∧
  (∀ (s : State) (c : Fin 256), s.Fitted → s.Listed → s.ct.present c = false →
    cellBytes s .levels c = [0xFF, 0xFF, 0xFF, 0xFF] ∧ cellBytes s .goals c = [0x03, 0xFF] ∧
      cellBytes s .daylight c = [0xFF, 0xFF] ∧ cellBytes s .flags c = [0x00, 0x00] ∧
      cellBytes s .targets c = halfBytes (s.ct.cells.get c).target)
end

