-- ==== Sys2Proof/Laws/State.lean ====
section
/-! SUPPORT. One lemma per block and per setter of `State`: what each setter leaves in each block. -/

namespace Sys2Proof.Machine.State

/-! ### setCt -/

@[simp] theorem setCt_ct (s : State) (x : CellTable) : (s.setCt x).ct = x := rfl
@[simp] theorem setCt_slu (s : State) (x : CellTable) : (s.setCt x).slu = s.slu := rfl
@[simp] theorem setCt_dle (s : State) (x : CellTable) : (s.setCt x).dle = s.dle := rfl
@[simp] theorem setCt_rlu (s : State) (x : CellTable) : (s.setCt x).rlu = s.rlu := rfl
@[simp] theorem setCt_lau (s : State) (x : CellTable) : (s.setCt x).lau = s.lau := rfl
@[simp] theorem setCt_fdu (s : State) (x : CellTable) : (s.setCt x).fdu = s.fdu := rfl
@[simp] theorem setCt_llc (s : State) (x : CellTable) : (s.setCt x).llc = s.llc := rfl
@[simp] theorem setCt_fsc (s : State) (x : CellTable) : (s.setCt x).fsc = s.fsc := rfl
@[simp] theorem setCt_sst (s : State) (x : CellTable) : (s.setCt x).sst = s.sst := rfl
@[simp] theorem setCt_zbi (s : State) (x : CellTable) : (s.setCt x).zbi = s.zbi := rfl
@[simp] theorem setCt_pending (s : State) (x : CellTable) : (s.setCt x).pending = s.pending := rfl

/-! ### setSlu -/

@[simp] theorem setSlu_ct (s : State) (x : SensorLinks) : (s.setSlu x).ct = s.ct := rfl
@[simp] theorem setSlu_slu (s : State) (x : SensorLinks) : (s.setSlu x).slu = x := rfl
@[simp] theorem setSlu_dle (s : State) (x : SensorLinks) : (s.setSlu x).dle = s.dle := rfl
@[simp] theorem setSlu_rlu (s : State) (x : SensorLinks) : (s.setSlu x).rlu = s.rlu := rfl
@[simp] theorem setSlu_lau (s : State) (x : SensorLinks) : (s.setSlu x).lau = s.lau := rfl
@[simp] theorem setSlu_fdu (s : State) (x : SensorLinks) : (s.setSlu x).fdu = s.fdu := rfl
@[simp] theorem setSlu_llc (s : State) (x : SensorLinks) : (s.setSlu x).llc = s.llc := rfl
@[simp] theorem setSlu_fsc (s : State) (x : SensorLinks) : (s.setSlu x).fsc = s.fsc := rfl
@[simp] theorem setSlu_sst (s : State) (x : SensorLinks) : (s.setSlu x).sst = s.sst := rfl
@[simp] theorem setSlu_zbi (s : State) (x : SensorLinks) : (s.setSlu x).zbi = s.zbi := rfl
@[simp] theorem setSlu_pending (s : State) (x : SensorLinks) : (s.setSlu x).pending = s.pending := rfl

/-! ### setDle -/

@[simp] theorem setDle_ct (s : State) (x : Daylight) : (s.setDle x).ct = s.ct := rfl
@[simp] theorem setDle_slu (s : State) (x : Daylight) : (s.setDle x).slu = s.slu := rfl
@[simp] theorem setDle_dle (s : State) (x : Daylight) : (s.setDle x).dle = x := rfl
@[simp] theorem setDle_rlu (s : State) (x : Daylight) : (s.setDle x).rlu = s.rlu := rfl
@[simp] theorem setDle_lau (s : State) (x : Daylight) : (s.setDle x).lau = s.lau := rfl
@[simp] theorem setDle_fdu (s : State) (x : Daylight) : (s.setDle x).fdu = s.fdu := rfl
@[simp] theorem setDle_llc (s : State) (x : Daylight) : (s.setDle x).llc = s.llc := rfl
@[simp] theorem setDle_fsc (s : State) (x : Daylight) : (s.setDle x).fsc = s.fsc := rfl
@[simp] theorem setDle_sst (s : State) (x : Daylight) : (s.setDle x).sst = s.sst := rfl
@[simp] theorem setDle_zbi (s : State) (x : Daylight) : (s.setDle x).zbi = s.zbi := rfl
@[simp] theorem setDle_pending (s : State) (x : Daylight) : (s.setDle x).pending = s.pending := rfl

/-! ### setRlu -/

@[simp] theorem setRlu_ct (s : State) (x : Requests) : (s.setRlu x).ct = s.ct := rfl
@[simp] theorem setRlu_slu (s : State) (x : Requests) : (s.setRlu x).slu = s.slu := rfl
@[simp] theorem setRlu_dle (s : State) (x : Requests) : (s.setRlu x).dle = s.dle := rfl
@[simp] theorem setRlu_rlu (s : State) (x : Requests) : (s.setRlu x).rlu = x := rfl
@[simp] theorem setRlu_lau (s : State) (x : Requests) : (s.setRlu x).lau = s.lau := rfl
@[simp] theorem setRlu_fdu (s : State) (x : Requests) : (s.setRlu x).fdu = s.fdu := rfl
@[simp] theorem setRlu_llc (s : State) (x : Requests) : (s.setRlu x).llc = s.llc := rfl
@[simp] theorem setRlu_fsc (s : State) (x : Requests) : (s.setRlu x).fsc = s.fsc := rfl
@[simp] theorem setRlu_sst (s : State) (x : Requests) : (s.setRlu x).sst = s.sst := rfl
@[simp] theorem setRlu_zbi (s : State) (x : Requests) : (s.setRlu x).zbi = s.zbi := rfl
@[simp] theorem setRlu_pending (s : State) (x : Requests) : (s.setRlu x).pending = s.pending := rfl

/-! ### setLau -/

@[simp] theorem setLau_ct (s : State) (x : Levels) : (s.setLau x).ct = s.ct := rfl
@[simp] theorem setLau_slu (s : State) (x : Levels) : (s.setLau x).slu = s.slu := rfl
@[simp] theorem setLau_dle (s : State) (x : Levels) : (s.setLau x).dle = s.dle := rfl
@[simp] theorem setLau_rlu (s : State) (x : Levels) : (s.setLau x).rlu = s.rlu := rfl
@[simp] theorem setLau_lau (s : State) (x : Levels) : (s.setLau x).lau = x := rfl
@[simp] theorem setLau_fdu (s : State) (x : Levels) : (s.setLau x).fdu = s.fdu := rfl
@[simp] theorem setLau_llc (s : State) (x : Levels) : (s.setLau x).llc = s.llc := rfl
@[simp] theorem setLau_fsc (s : State) (x : Levels) : (s.setLau x).fsc = s.fsc := rfl
@[simp] theorem setLau_sst (s : State) (x : Levels) : (s.setLau x).sst = s.sst := rfl
@[simp] theorem setLau_zbi (s : State) (x : Levels) : (s.setLau x).zbi = s.zbi := rfl
@[simp] theorem setLau_pending (s : State) (x : Levels) : (s.setLau x).pending = s.pending := rfl

/-! ### setFdu -/

@[simp] theorem setFdu_ct (s : State) (x : Fades) : (s.setFdu x).ct = s.ct := rfl
@[simp] theorem setFdu_slu (s : State) (x : Fades) : (s.setFdu x).slu = s.slu := rfl
@[simp] theorem setFdu_dle (s : State) (x : Fades) : (s.setFdu x).dle = s.dle := rfl
@[simp] theorem setFdu_rlu (s : State) (x : Fades) : (s.setFdu x).rlu = s.rlu := rfl
@[simp] theorem setFdu_lau (s : State) (x : Fades) : (s.setFdu x).lau = s.lau := rfl
@[simp] theorem setFdu_fdu (s : State) (x : Fades) : (s.setFdu x).fdu = x := rfl
@[simp] theorem setFdu_llc (s : State) (x : Fades) : (s.setFdu x).llc = s.llc := rfl
@[simp] theorem setFdu_fsc (s : State) (x : Fades) : (s.setFdu x).fsc = s.fsc := rfl
@[simp] theorem setFdu_sst (s : State) (x : Fades) : (s.setFdu x).sst = s.sst := rfl
@[simp] theorem setFdu_zbi (s : State) (x : Fades) : (s.setFdu x).zbi = s.zbi := rfl
@[simp] theorem setFdu_pending (s : State) (x : Fades) : (s.setFdu x).pending = s.pending := rfl

/-! ### setLlc -/

@[simp] theorem setLlc_ct (s : State) (x : LuminaireLink) : (s.setLlc x).ct = s.ct := rfl
@[simp] theorem setLlc_slu (s : State) (x : LuminaireLink) : (s.setLlc x).slu = s.slu := rfl
@[simp] theorem setLlc_dle (s : State) (x : LuminaireLink) : (s.setLlc x).dle = s.dle := rfl
@[simp] theorem setLlc_rlu (s : State) (x : LuminaireLink) : (s.setLlc x).rlu = s.rlu := rfl
@[simp] theorem setLlc_lau (s : State) (x : LuminaireLink) : (s.setLlc x).lau = s.lau := rfl
@[simp] theorem setLlc_fdu (s : State) (x : LuminaireLink) : (s.setLlc x).fdu = s.fdu := rfl
@[simp] theorem setLlc_llc (s : State) (x : LuminaireLink) : (s.setLlc x).llc = x := rfl
@[simp] theorem setLlc_fsc (s : State) (x : LuminaireLink) : (s.setLlc x).fsc = s.fsc := rfl
@[simp] theorem setLlc_sst (s : State) (x : LuminaireLink) : (s.setLlc x).sst = s.sst := rfl
@[simp] theorem setLlc_zbi (s : State) (x : LuminaireLink) : (s.setLlc x).zbi = s.zbi := rfl
@[simp] theorem setLlc_pending (s : State) (x : LuminaireLink) : (s.setLlc x).pending = s.pending := rfl

/-! ### setFsc -/

@[simp] theorem setFsc_ct (s : State) (x : Floor) : (s.setFsc x).ct = s.ct := rfl
@[simp] theorem setFsc_slu (s : State) (x : Floor) : (s.setFsc x).slu = s.slu := rfl
@[simp] theorem setFsc_dle (s : State) (x : Floor) : (s.setFsc x).dle = s.dle := rfl
@[simp] theorem setFsc_rlu (s : State) (x : Floor) : (s.setFsc x).rlu = s.rlu := rfl
@[simp] theorem setFsc_lau (s : State) (x : Floor) : (s.setFsc x).lau = s.lau := rfl
@[simp] theorem setFsc_fdu (s : State) (x : Floor) : (s.setFsc x).fdu = s.fdu := rfl
@[simp] theorem setFsc_llc (s : State) (x : Floor) : (s.setFsc x).llc = s.llc := rfl
@[simp] theorem setFsc_fsc (s : State) (x : Floor) : (s.setFsc x).fsc = x := rfl
@[simp] theorem setFsc_sst (s : State) (x : Floor) : (s.setFsc x).sst = s.sst := rfl
@[simp] theorem setFsc_zbi (s : State) (x : Floor) : (s.setFsc x).zbi = s.zbi := rfl
@[simp] theorem setFsc_pending (s : State) (x : Floor) : (s.setFsc x).pending = s.pending := rfl

/-! ### setSst -/

@[simp] theorem setSst_ct (s : State) (x : SettingsStore) : (s.setSst x).ct = s.ct := rfl
@[simp] theorem setSst_slu (s : State) (x : SettingsStore) : (s.setSst x).slu = s.slu := rfl
@[simp] theorem setSst_dle (s : State) (x : SettingsStore) : (s.setSst x).dle = s.dle := rfl
@[simp] theorem setSst_rlu (s : State) (x : SettingsStore) : (s.setSst x).rlu = s.rlu := rfl
@[simp] theorem setSst_lau (s : State) (x : SettingsStore) : (s.setSst x).lau = s.lau := rfl
@[simp] theorem setSst_fdu (s : State) (x : SettingsStore) : (s.setSst x).fdu = s.fdu := rfl
@[simp] theorem setSst_llc (s : State) (x : SettingsStore) : (s.setSst x).llc = s.llc := rfl
@[simp] theorem setSst_fsc (s : State) (x : SettingsStore) : (s.setSst x).fsc = s.fsc := rfl
@[simp] theorem setSst_sst (s : State) (x : SettingsStore) : (s.setSst x).sst = x := rfl
@[simp] theorem setSst_zbi (s : State) (x : SettingsStore) : (s.setSst x).zbi = s.zbi := rfl
@[simp] theorem setSst_pending (s : State) (x : SettingsStore) : (s.setSst x).pending = s.pending := rfl

/-! ### setZbi -/

@[simp] theorem setZbi_ct (s : State) (x : ZoneBus) : (s.setZbi x).ct = s.ct := rfl
@[simp] theorem setZbi_slu (s : State) (x : ZoneBus) : (s.setZbi x).slu = s.slu := rfl
@[simp] theorem setZbi_dle (s : State) (x : ZoneBus) : (s.setZbi x).dle = s.dle := rfl
@[simp] theorem setZbi_rlu (s : State) (x : ZoneBus) : (s.setZbi x).rlu = s.rlu := rfl
@[simp] theorem setZbi_lau (s : State) (x : ZoneBus) : (s.setZbi x).lau = s.lau := rfl
@[simp] theorem setZbi_fdu (s : State) (x : ZoneBus) : (s.setZbi x).fdu = s.fdu := rfl
@[simp] theorem setZbi_llc (s : State) (x : ZoneBus) : (s.setZbi x).llc = s.llc := rfl
@[simp] theorem setZbi_fsc (s : State) (x : ZoneBus) : (s.setZbi x).fsc = s.fsc := rfl
@[simp] theorem setZbi_sst (s : State) (x : ZoneBus) : (s.setZbi x).sst = s.sst := rfl
@[simp] theorem setZbi_zbi (s : State) (x : ZoneBus) : (s.setZbi x).zbi = x := rfl
@[simp] theorem setZbi_pending (s : State) (x : ZoneBus) : (s.setZbi x).pending = s.pending := rfl

/-! ### setPending -/

@[simp] theorem setPending_ct (s : State) (x : List Instr) : (s.setPending x).ct = s.ct := rfl
@[simp] theorem setPending_slu (s : State) (x : List Instr) : (s.setPending x).slu = s.slu := rfl
@[simp] theorem setPending_dle (s : State) (x : List Instr) : (s.setPending x).dle = s.dle := rfl
@[simp] theorem setPending_rlu (s : State) (x : List Instr) : (s.setPending x).rlu = s.rlu := rfl
@[simp] theorem setPending_lau (s : State) (x : List Instr) : (s.setPending x).lau = s.lau := rfl
@[simp] theorem setPending_fdu (s : State) (x : List Instr) : (s.setPending x).fdu = s.fdu := rfl
@[simp] theorem setPending_llc (s : State) (x : List Instr) : (s.setPending x).llc = s.llc := rfl
@[simp] theorem setPending_fsc (s : State) (x : List Instr) : (s.setPending x).fsc = s.fsc := rfl
@[simp] theorem setPending_sst (s : State) (x : List Instr) : (s.setPending x).sst = s.sst := rfl
@[simp] theorem setPending_zbi (s : State) (x : List Instr) : (s.setPending x).zbi = s.zbi := rfl
@[simp] theorem setPending_pending (s : State) (x : List Instr) : (s.setPending x).pending = x := rfl

end Sys2Proof.Machine.State
end

