-- ==== Sys2Proof/Laws/LinkLaws.lean ====
section
/-! SUPPORT. The frames of the luminaire-link operations: which blocks each one leaves as they are. -/

namespace Sys2Proof.Machine.State

@[simp] theorem startBurst_ct (s : State) (r : Fin 8) : (s.startBurst r).ct = s.ct := rfl
@[simp] theorem startBurst_slu (s : State) (r : Fin 8) : (s.startBurst r).slu = s.slu := rfl
@[simp] theorem startBurst_dle (s : State) (r : Fin 8) : (s.startBurst r).dle = s.dle := rfl
@[simp] theorem startBurst_rlu (s : State) (r : Fin 8) : (s.startBurst r).rlu = s.rlu := rfl
@[simp] theorem startBurst_lau (s : State) (r : Fin 8) : (s.startBurst r).lau = s.lau := rfl
@[simp] theorem startBurst_fdu (s : State) (r : Fin 8) : (s.startBurst r).fdu = s.fdu := rfl
@[simp] theorem startBurst_fsc (s : State) (r : Fin 8) : (s.startBurst r).fsc = s.fsc := rfl
@[simp] theorem startBurst_sst (s : State) (r : Fin 8) : (s.startBurst r).sst = s.sst := rfl
@[simp] theorem startBurst_zbi (s : State) (r : Fin 8) : (s.startBurst r).zbi = s.zbi := rfl
@[simp] theorem startBurst_pending (s : State) (r : Fin 8) : (s.startBurst r).pending = s.pending := rfl

@[simp] theorem select_ct (s : State) : s.select.ct = s.ct := by unfold select; dsimp only; (repeat' split) <;> simp
@[simp] theorem select_slu (s : State) : s.select.slu = s.slu := by unfold select; dsimp only; (repeat' split) <;> simp
@[simp] theorem select_dle (s : State) : s.select.dle = s.dle := by unfold select; dsimp only; (repeat' split) <;> simp
@[simp] theorem select_rlu (s : State) : s.select.rlu = s.rlu := by unfold select; dsimp only; (repeat' split) <;> simp
@[simp] theorem select_lau (s : State) : s.select.lau = s.lau := by unfold select; dsimp only; (repeat' split) <;> simp
@[simp] theorem select_fdu (s : State) : s.select.fdu = s.fdu := by unfold select; dsimp only; (repeat' split) <;> simp
@[simp] theorem select_fsc (s : State) : s.select.fsc = s.fsc := by unfold select; dsimp only; (repeat' split) <;> simp
@[simp] theorem select_sst (s : State) : s.select.sst = s.sst := by unfold select; dsimp only; (repeat' split) <;> simp
@[simp] theorem select_zbi (s : State) : s.select.zbi = s.zbi := by unfold select; dsimp only; (repeat' split) <;> simp
@[simp] theorem select_pending (s : State) : s.select.pending = s.pending := by unfold select; dsimp only; (repeat' split) <;> simp

@[simp] theorem prompt_ct (s : State) : s.prompt.ct = s.ct := by unfold prompt; split <;> simp
@[simp] theorem prompt_slu (s : State) : s.prompt.slu = s.slu := by unfold prompt; split <;> simp
@[simp] theorem prompt_dle (s : State) : s.prompt.dle = s.dle := by unfold prompt; split <;> simp
@[simp] theorem prompt_rlu (s : State) : s.prompt.rlu = s.rlu := by unfold prompt; split <;> simp
@[simp] theorem prompt_lau (s : State) : s.prompt.lau = s.lau := by unfold prompt; split <;> simp
@[simp] theorem prompt_fdu (s : State) : s.prompt.fdu = s.fdu := by unfold prompt; split <;> simp
@[simp] theorem prompt_fsc (s : State) : s.prompt.fsc = s.fsc := by unfold prompt; split <;> simp
@[simp] theorem prompt_sst (s : State) : s.prompt.sst = s.sst := by unfold prompt; split <;> simp
@[simp] theorem prompt_zbi (s : State) : s.prompt.zbi = s.zbi := by unfold prompt; split <;> simp
@[simp] theorem prompt_pending (s : State) : s.prompt.pending = s.pending := by unfold prompt; split <;> simp

@[simp] theorem freeLink_ct (s : State) : s.freeLink.ct = s.ct := by unfold freeLink; simp
@[simp] theorem freeLink_slu (s : State) : s.freeLink.slu = s.slu := by unfold freeLink; simp
@[simp] theorem freeLink_dle (s : State) : s.freeLink.dle = s.dle := by unfold freeLink; simp
@[simp] theorem freeLink_rlu (s : State) : s.freeLink.rlu = s.rlu := by unfold freeLink; simp
@[simp] theorem freeLink_lau (s : State) : s.freeLink.lau = s.lau := by unfold freeLink; simp
@[simp] theorem freeLink_fdu (s : State) : s.freeLink.fdu = s.fdu := by unfold freeLink; simp
@[simp] theorem freeLink_fsc (s : State) : s.freeLink.fsc = s.fsc := by unfold freeLink; simp
@[simp] theorem freeLink_sst (s : State) : s.freeLink.sst = s.sst := by unfold freeLink; simp
@[simp] theorem freeLink_zbi (s : State) : s.freeLink.zbi = s.zbi := by unfold freeLink; simp
@[simp] theorem freeLink_pending (s : State) : s.freeLink.pending = s.pending := by unfold freeLink; simp

@[simp] theorem postRows_ct (s : State) (p : Fin 8 → Bool) : (s.postRows p).ct = s.ct := rfl
@[simp] theorem postRows_slu (s : State) (p : Fin 8 → Bool) : (s.postRows p).slu = s.slu := rfl
@[simp] theorem postRows_dle (s : State) (p : Fin 8 → Bool) : (s.postRows p).dle = s.dle := rfl
@[simp] theorem postRows_rlu (s : State) (p : Fin 8 → Bool) : (s.postRows p).rlu = s.rlu := rfl
@[simp] theorem postRows_lau (s : State) (p : Fin 8 → Bool) : (s.postRows p).lau = s.lau := rfl
@[simp] theorem postRows_fdu (s : State) (p : Fin 8 → Bool) : (s.postRows p).fdu = s.fdu := rfl
@[simp] theorem postRows_fsc (s : State) (p : Fin 8 → Bool) : (s.postRows p).fsc = s.fsc := rfl
@[simp] theorem postRows_sst (s : State) (p : Fin 8 → Bool) : (s.postRows p).sst = s.sst := rfl
@[simp] theorem postRows_zbi (s : State) (p : Fin 8 → Bool) : (s.postRows p).zbi = s.zbi := rfl
@[simp] theorem postRows_pending (s : State) (p : Fin 8 → Bool) : (s.postRows p).pending = s.pending := rfl

@[simp] theorem touchAll_ct (s : State) : s.touchAll.ct = s.ct := rfl
@[simp] theorem touchAll_slu (s : State) : s.touchAll.slu = s.slu := rfl
@[simp] theorem touchAll_dle (s : State) : s.touchAll.dle = s.dle := rfl
@[simp] theorem touchAll_rlu (s : State) : s.touchAll.rlu = s.rlu := rfl
@[simp] theorem touchAll_lau (s : State) : s.touchAll.lau = s.lau := rfl
@[simp] theorem touchAll_fdu (s : State) : s.touchAll.fdu = s.fdu := rfl
@[simp] theorem touchAll_fsc (s : State) : s.touchAll.fsc = s.fsc := rfl
@[simp] theorem touchAll_sst (s : State) : s.touchAll.sst = s.sst := rfl
@[simp] theorem touchAll_zbi (s : State) : s.touchAll.zbi = s.zbi := rfl
@[simp] theorem touchAll_pending (s : State) : s.touchAll.pending = s.pending := rfl

@[simp] theorem applyInterval_ct (s : State) : s.applyInterval.ct = s.ct := by unfold applyInterval; split <;> rfl
@[simp] theorem applyInterval_slu (s : State) : s.applyInterval.slu = s.slu := by unfold applyInterval; split <;> rfl
@[simp] theorem applyInterval_dle (s : State) : s.applyInterval.dle = s.dle := by unfold applyInterval; split <;> rfl
@[simp] theorem applyInterval_rlu (s : State) : s.applyInterval.rlu = s.rlu := by unfold applyInterval; split <;> rfl
@[simp] theorem applyInterval_lau (s : State) : s.applyInterval.lau = s.lau := by unfold applyInterval; split <;> rfl
@[simp] theorem applyInterval_fdu (s : State) : s.applyInterval.fdu = s.fdu := by unfold applyInterval; split <;> rfl
@[simp] theorem applyInterval_fsc (s : State) : s.applyInterval.fsc = s.fsc := by unfold applyInterval; split <;> rfl
@[simp] theorem applyInterval_sst (s : State) : s.applyInterval.sst = s.sst := by unfold applyInterval; split <;> rfl
@[simp] theorem applyInterval_zbi (s : State) : s.applyInterval.zbi = s.zbi := by unfold applyInterval; split <;> rfl
@[simp] theorem applyInterval_pending (s : State) : s.applyInterval.pending = s.pending := by unfold applyInterval; split <;> rfl

@[simp] theorem cutFrame_ct (s : State) : s.cutFrame.ct = s.ct := by unfold cutFrame; (repeat' split) <;> rfl
@[simp] theorem cutFrame_slu (s : State) : s.cutFrame.slu = s.slu := by unfold cutFrame; (repeat' split) <;> rfl
@[simp] theorem cutFrame_dle (s : State) : s.cutFrame.dle = s.dle := by unfold cutFrame; (repeat' split) <;> rfl
@[simp] theorem cutFrame_rlu (s : State) : s.cutFrame.rlu = s.rlu := by unfold cutFrame; (repeat' split) <;> rfl
@[simp] theorem cutFrame_lau (s : State) : s.cutFrame.lau = s.lau := by unfold cutFrame; (repeat' split) <;> rfl
@[simp] theorem cutFrame_fdu (s : State) : s.cutFrame.fdu = s.fdu := by unfold cutFrame; (repeat' split) <;> rfl
@[simp] theorem cutFrame_fsc (s : State) : s.cutFrame.fsc = s.fsc := by unfold cutFrame; (repeat' split) <;> rfl
@[simp] theorem cutFrame_sst (s : State) : s.cutFrame.sst = s.sst := by unfold cutFrame; (repeat' split) <;> rfl
@[simp] theorem cutFrame_zbi (s : State) : s.cutFrame.zbi = s.zbi := by unfold cutFrame; (repeat' split) <;> rfl
@[simp] theorem cutFrame_pending (s : State) : s.cutFrame.pending = s.pending := by unfold cutFrame; (repeat' split) <;> rfl

@[simp] theorem burstDone_ct (s : State) (r : Fin 8) (first : Nat) (bays : List StagedBay) : (s.burstDone r first bays).ct = s.ct := by unfold burstDone; dsimp only; (repeat' split) <;> simp
@[simp] theorem burstDone_slu (s : State) (r : Fin 8) (first : Nat) (bays : List StagedBay) : (s.burstDone r first bays).slu = s.slu := by unfold burstDone; dsimp only; (repeat' split) <;> simp
@[simp] theorem burstDone_dle (s : State) (r : Fin 8) (first : Nat) (bays : List StagedBay) : (s.burstDone r first bays).dle = s.dle := by unfold burstDone; dsimp only; (repeat' split) <;> simp
@[simp] theorem burstDone_rlu (s : State) (r : Fin 8) (first : Nat) (bays : List StagedBay) : (s.burstDone r first bays).rlu = s.rlu := by unfold burstDone; dsimp only; (repeat' split) <;> simp
@[simp] theorem burstDone_lau (s : State) (r : Fin 8) (first : Nat) (bays : List StagedBay) : (s.burstDone r first bays).lau = s.lau := by unfold burstDone; dsimp only; (repeat' split) <;> simp
@[simp] theorem burstDone_fdu (s : State) (r : Fin 8) (first : Nat) (bays : List StagedBay) : (s.burstDone r first bays).fdu = s.fdu := by unfold burstDone; dsimp only; (repeat' split) <;> simp
@[simp] theorem burstDone_fsc (s : State) (r : Fin 8) (first : Nat) (bays : List StagedBay) : (s.burstDone r first bays).fsc = s.fsc := by unfold burstDone; dsimp only; (repeat' split) <;> simp
@[simp] theorem burstDone_sst (s : State) (r : Fin 8) (first : Nat) (bays : List StagedBay) : (s.burstDone r first bays).sst = s.sst := by unfold burstDone; dsimp only; (repeat' split) <;> simp
@[simp] theorem burstDone_zbi (s : State) (r : Fin 8) (first : Nat) (bays : List StagedBay) : (s.burstDone r first bays).zbi = s.zbi := by unfold burstDone; dsimp only; (repeat' split) <;> simp
@[simp] theorem burstDone_pending (s : State) (r : Fin 8) (first : Nat) (bays : List StagedBay) : (s.burstDone r first bays).pending = s.pending := by unfold burstDone; dsimp only; (repeat' split) <;> simp

@[simp] theorem shedDone_ct (s : State) (levels : Table Nat 3) : (s.shedDone levels).ct = s.ct := by unfold shedDone; simp
@[simp] theorem shedDone_slu (s : State) (levels : Table Nat 3) : (s.shedDone levels).slu = s.slu := by unfold shedDone; simp
@[simp] theorem shedDone_dle (s : State) (levels : Table Nat 3) : (s.shedDone levels).dle = s.dle := by unfold shedDone; simp
@[simp] theorem shedDone_rlu (s : State) (levels : Table Nat 3) : (s.shedDone levels).rlu = s.rlu := by unfold shedDone; simp
@[simp] theorem shedDone_lau (s : State) (levels : Table Nat 3) : (s.shedDone levels).lau = s.lau := by unfold shedDone; simp
@[simp] theorem shedDone_fdu (s : State) (levels : Table Nat 3) : (s.shedDone levels).fdu = s.fdu := by unfold shedDone; simp
@[simp] theorem shedDone_fsc (s : State) (levels : Table Nat 3) : (s.shedDone levels).fsc = s.fsc := by unfold shedDone; simp
@[simp] theorem shedDone_sst (s : State) (levels : Table Nat 3) : (s.shedDone levels).sst = s.sst := by unfold shedDone; simp
@[simp] theorem shedDone_zbi (s : State) (levels : Table Nat 3) : (s.shedDone levels).zbi = s.zbi := by unfold shedDone; simp
@[simp] theorem shedDone_pending (s : State) (levels : Table Nat 3) : (s.shedDone levels).pending = s.pending := by unfold shedDone; simp

@[simp] theorem cutDone_ct (s : State) (f : Frame) : (s.cutDone f).ct = s.ct := by unfold cutDone; (repeat' split) <;> rfl
@[simp] theorem cutDone_slu (s : State) (f : Frame) : (s.cutDone f).slu = s.slu := by unfold cutDone; (repeat' split) <;> rfl
@[simp] theorem cutDone_dle (s : State) (f : Frame) : (s.cutDone f).dle = s.dle := by unfold cutDone; (repeat' split) <;> rfl
@[simp] theorem cutDone_rlu (s : State) (f : Frame) : (s.cutDone f).rlu = s.rlu := by unfold cutDone; (repeat' split) <;> rfl
@[simp] theorem cutDone_lau (s : State) (f : Frame) : (s.cutDone f).lau = s.lau := by unfold cutDone; (repeat' split) <;> rfl
@[simp] theorem cutDone_fdu (s : State) (f : Frame) : (s.cutDone f).fdu = s.fdu := by unfold cutDone; (repeat' split) <;> rfl
@[simp] theorem cutDone_fsc (s : State) (f : Frame) : (s.cutDone f).fsc = s.fsc := by unfold cutDone; (repeat' split) <;> rfl
@[simp] theorem cutDone_sst (s : State) (f : Frame) : (s.cutDone f).sst = s.sst := by unfold cutDone; (repeat' split) <;> rfl
@[simp] theorem cutDone_zbi (s : State) (f : Frame) : (s.cutDone f).zbi = s.zbi := by unfold cutDone; (repeat' split) <;> rfl
@[simp] theorem cutDone_pending (s : State) (f : Frame) : (s.cutDone f).pending = s.pending := by unfold cutDone; (repeat' split) <;> rfl

@[simp] theorem initDone_ct (s : State) : s.initDone.ct = s.ct := by unfold initDone; dsimp only; (repeat' split) <;> simp
@[simp] theorem initDone_slu (s : State) : s.initDone.slu = s.slu := by unfold initDone; dsimp only; (repeat' split) <;> simp
@[simp] theorem initDone_dle (s : State) : s.initDone.dle = s.dle := by unfold initDone; dsimp only; (repeat' split) <;> simp
@[simp] theorem initDone_rlu (s : State) : s.initDone.rlu = s.rlu := by unfold initDone; dsimp only; (repeat' split) <;> simp
@[simp] theorem initDone_lau (s : State) : s.initDone.lau = s.lau := by unfold initDone; dsimp only; (repeat' split) <;> simp
@[simp] theorem initDone_sst (s : State) : s.initDone.sst = s.sst := by unfold initDone; dsimp only; (repeat' split) <;> simp
@[simp] theorem initDone_zbi (s : State) : s.initDone.zbi = s.zbi := by unfold initDone; dsimp only; (repeat' split) <;> simp
@[simp] theorem initDone_pending (s : State) : s.initDone.pending = s.pending := by unfold initDone; dsimp only; (repeat' split) <;> simp

@[simp] theorem frameDone_ct (s : State) (f : Frame) : (s.frameDone f).ct = s.ct := by unfold frameDone; split <;> simp
@[simp] theorem frameDone_slu (s : State) (f : Frame) : (s.frameDone f).slu = s.slu := by unfold frameDone; split <;> simp
@[simp] theorem frameDone_dle (s : State) (f : Frame) : (s.frameDone f).dle = s.dle := by unfold frameDone; split <;> simp
@[simp] theorem frameDone_rlu (s : State) (f : Frame) : (s.frameDone f).rlu = s.rlu := by unfold frameDone; split <;> simp
@[simp] theorem frameDone_lau (s : State) (f : Frame) : (s.frameDone f).lau = s.lau := by unfold frameDone; split <;> simp
@[simp] theorem frameDone_sst (s : State) (f : Frame) : (s.frameDone f).sst = s.sst := by unfold frameDone; split <;> simp
@[simp] theorem frameDone_zbi (s : State) (f : Frame) : (s.frameDone f).zbi = s.zbi := by unfold frameDone; split <;> simp
@[simp] theorem frameDone_pending (s : State) (f : Frame) : (s.frameDone f).pending = s.pending := by unfold frameDone; split <;> simp

@[simp] theorem complete_ct (s : State) : s.complete.ct = s.ct := by unfold complete; (repeat' split) <;> simp
@[simp] theorem complete_slu (s : State) : s.complete.slu = s.slu := by unfold complete; (repeat' split) <;> simp
@[simp] theorem complete_dle (s : State) : s.complete.dle = s.dle := by unfold complete; (repeat' split) <;> simp
@[simp] theorem complete_rlu (s : State) : s.complete.rlu = s.rlu := by unfold complete; (repeat' split) <;> simp
@[simp] theorem complete_lau (s : State) : s.complete.lau = s.lau := by unfold complete; (repeat' split) <;> simp
@[simp] theorem complete_sst (s : State) : s.complete.sst = s.sst := by unfold complete; (repeat' split) <;> simp
@[simp] theorem complete_zbi (s : State) : s.complete.zbi = s.zbi := by unfold complete; (repeat' split) <;> simp
@[simp] theorem complete_pending (s : State) : s.complete.pending = s.pending := by unfold complete; (repeat' split) <;> simp

@[simp] theorem completeIf_ct (s : State) (p : Flight → Bool) : (s.completeIf p).ct = s.ct := by unfold completeIf; (repeat' split) <;> simp
@[simp] theorem completeIf_slu (s : State) (p : Flight → Bool) : (s.completeIf p).slu = s.slu := by unfold completeIf; (repeat' split) <;> simp
@[simp] theorem completeIf_dle (s : State) (p : Flight → Bool) : (s.completeIf p).dle = s.dle := by unfold completeIf; (repeat' split) <;> simp
@[simp] theorem completeIf_rlu (s : State) (p : Flight → Bool) : (s.completeIf p).rlu = s.rlu := by unfold completeIf; (repeat' split) <;> simp
@[simp] theorem completeIf_lau (s : State) (p : Flight → Bool) : (s.completeIf p).lau = s.lau := by unfold completeIf; (repeat' split) <;> simp
@[simp] theorem completeIf_sst (s : State) (p : Flight → Bool) : (s.completeIf p).sst = s.sst := by unfold completeIf; (repeat' split) <;> simp
@[simp] theorem completeIf_zbi (s : State) (p : Flight → Bool) : (s.completeIf p).zbi = s.zbi := by unfold completeIf; (repeat' split) <;> simp
@[simp] theorem completeIf_pending (s : State) (p : Flight → Bool) : (s.completeIf p).pending = s.pending := by unfold completeIf; (repeat' split) <;> simp

end Sys2Proof.Machine.State
end

