-- ==== Sys2Proof/Laws/ListLaws.lean ====
section
/-! SUPPORT. The frames of the request-list operations: which blocks each one leaves as they are. -/

namespace Sys2Proof.Machine.State

@[simp] theorem setList_ct (s : State) (l : List Entry) (c : List Selector) : (s.setList l c).ct = s.ct := rfl
@[simp] theorem setList_slu (s : State) (l : List Entry) (c : List Selector) : (s.setList l c).slu = s.slu := rfl
@[simp] theorem setList_dle (s : State) (l : List Entry) (c : List Selector) : (s.setList l c).dle = s.dle := rfl
@[simp] theorem setList_lau (s : State) (l : List Entry) (c : List Selector) : (s.setList l c).lau = s.lau := rfl
@[simp] theorem setList_fdu (s : State) (l : List Entry) (c : List Selector) : (s.setList l c).fdu = s.fdu := rfl
@[simp] theorem setList_llc (s : State) (l : List Entry) (c : List Selector) : (s.setList l c).llc = s.llc := rfl
@[simp] theorem setList_fsc (s : State) (l : List Entry) (c : List Selector) : (s.setList l c).fsc = s.fsc := rfl
@[simp] theorem setList_sst (s : State) (l : List Entry) (c : List Selector) : (s.setList l c).sst = s.sst := rfl
@[simp] theorem setList_zbi (s : State) (l : List Entry) (c : List Selector) : (s.setList l c).zbi = s.zbi := rfl
@[simp] theorem setList_pending (s : State) (l : List Entry) (c : List Selector) : (s.setList l c).pending = s.pending := rfl

@[simp] theorem removeEntries_ct (s : State) (p : Entry → Bool) : (s.removeEntries p).ct = s.ct := rfl
@[simp] theorem removeEntries_slu (s : State) (p : Entry → Bool) : (s.removeEntries p).slu = s.slu := rfl
@[simp] theorem removeEntries_dle (s : State) (p : Entry → Bool) : (s.removeEntries p).dle = s.dle := rfl
@[simp] theorem removeEntries_lau (s : State) (p : Entry → Bool) : (s.removeEntries p).lau = s.lau := rfl
@[simp] theorem removeEntries_fdu (s : State) (p : Entry → Bool) : (s.removeEntries p).fdu = s.fdu := rfl
@[simp] theorem removeEntries_llc (s : State) (p : Entry → Bool) : (s.removeEntries p).llc = s.llc := rfl
@[simp] theorem removeEntries_fsc (s : State) (p : Entry → Bool) : (s.removeEntries p).fsc = s.fsc := rfl
@[simp] theorem removeEntries_sst (s : State) (p : Entry → Bool) : (s.removeEntries p).sst = s.sst := rfl
@[simp] theorem removeEntries_zbi (s : State) (p : Entry → Bool) : (s.removeEntries p).zbi = s.zbi := rfl
@[simp] theorem removeEntries_pending (s : State) (p : Entry → Bool) : (s.removeEntries p).pending = s.pending := rfl

@[simp] theorem regrid_ct (s : State) : s.regrid.ct = s.ct := rfl
@[simp] theorem regrid_slu (s : State) : s.regrid.slu = s.slu := rfl
@[simp] theorem regrid_dle (s : State) : s.regrid.dle = s.dle := rfl
@[simp] theorem regrid_lau (s : State) : s.regrid.lau = s.lau := rfl
@[simp] theorem regrid_fdu (s : State) : s.regrid.fdu = s.fdu := rfl
@[simp] theorem regrid_llc (s : State) : s.regrid.llc = s.llc := rfl
@[simp] theorem regrid_fsc (s : State) : s.regrid.fsc = s.fsc := rfl
@[simp] theorem regrid_sst (s : State) : s.regrid.sst = s.sst := rfl
@[simp] theorem regrid_zbi (s : State) : s.regrid.zbi = s.zbi := rfl
@[simp] theorem regrid_pending (s : State) : s.regrid.pending = s.pending := rfl

@[simp] theorem countEntries_ct (s : State) : s.countEntries.ct = s.ct := rfl
@[simp] theorem countEntries_slu (s : State) : s.countEntries.slu = s.slu := rfl
@[simp] theorem countEntries_dle (s : State) : s.countEntries.dle = s.dle := rfl
@[simp] theorem countEntries_lau (s : State) : s.countEntries.lau = s.lau := rfl
@[simp] theorem countEntries_fdu (s : State) : s.countEntries.fdu = s.fdu := rfl
@[simp] theorem countEntries_llc (s : State) : s.countEntries.llc = s.llc := rfl
@[simp] theorem countEntries_fsc (s : State) : s.countEntries.fsc = s.fsc := rfl
@[simp] theorem countEntries_sst (s : State) : s.countEntries.sst = s.sst := rfl
@[simp] theorem countEntries_zbi (s : State) : s.countEntries.zbi = s.zbi := rfl
@[simp] theorem countEntries_pending (s : State) : s.countEntries.pending = s.pending := rfl

end Sys2Proof.Machine.State
end

