-- ==== Sys2Proof/Laws/SensorLaws.lean ====
section
/-! SUPPORT. The frames of the sensor operations: which blocks each one leaves as they are. -/

namespace Sys2Proof.Machine.State

@[simp] theorem handOff_ct (s : State) (i : Fin 16) (h : HandOff) : (s.handOff i h).ct = s.ct := rfl
@[simp] theorem handOff_slu (s : State) (i : Fin 16) (h : HandOff) : (s.handOff i h).slu = s.slu := rfl
@[simp] theorem handOff_rlu (s : State) (i : Fin 16) (h : HandOff) : (s.handOff i h).rlu = s.rlu := rfl
@[simp] theorem handOff_lau (s : State) (i : Fin 16) (h : HandOff) : (s.handOff i h).lau = s.lau := rfl
@[simp] theorem handOff_fdu (s : State) (i : Fin 16) (h : HandOff) : (s.handOff i h).fdu = s.fdu := rfl
@[simp] theorem handOff_llc (s : State) (i : Fin 16) (h : HandOff) : (s.handOff i h).llc = s.llc := rfl
@[simp] theorem handOff_fsc (s : State) (i : Fin 16) (h : HandOff) : (s.handOff i h).fsc = s.fsc := rfl
@[simp] theorem handOff_sst (s : State) (i : Fin 16) (h : HandOff) : (s.handOff i h).sst = s.sst := rfl
@[simp] theorem handOff_zbi (s : State) (i : Fin 16) (h : HandOff) : (s.handOff i h).zbi = s.zbi := rfl
@[simp] theorem handOff_pending (s : State) (i : Fin 16) (h : HandOff) : (s.handOff i h).pending = s.pending := rfl

@[simp] theorem putSensor_ct (s : State) (i : Fin 16) (x : Sensor × HandOff) : (s.putSensor i x).ct = s.ct := rfl
@[simp] theorem putSensor_rlu (s : State) (i : Fin 16) (x : Sensor × HandOff) : (s.putSensor i x).rlu = s.rlu := rfl
@[simp] theorem putSensor_lau (s : State) (i : Fin 16) (x : Sensor × HandOff) : (s.putSensor i x).lau = s.lau := rfl
@[simp] theorem putSensor_fdu (s : State) (i : Fin 16) (x : Sensor × HandOff) : (s.putSensor i x).fdu = s.fdu := rfl
@[simp] theorem putSensor_llc (s : State) (i : Fin 16) (x : Sensor × HandOff) : (s.putSensor i x).llc = s.llc := rfl
@[simp] theorem putSensor_fsc (s : State) (i : Fin 16) (x : Sensor × HandOff) : (s.putSensor i x).fsc = s.fsc := rfl
@[simp] theorem putSensor_sst (s : State) (i : Fin 16) (x : Sensor × HandOff) : (s.putSensor i x).sst = s.sst := rfl
@[simp] theorem putSensor_zbi (s : State) (i : Fin 16) (x : Sensor × HandOff) : (s.putSensor i x).zbi = s.zbi := rfl
@[simp] theorem putSensor_pending (s : State) (i : Fin 16) (x : Sensor × HandOff) : (s.putSensor i x).pending = s.pending := rfl

@[simp] theorem pollExpiry_ct (s : State) (l : Fin 4) : (s.pollExpiry l).ct = s.ct := by unfold pollExpiry; dsimp only; (repeat' split) <;> simp
@[simp] theorem pollExpiry_dle (s : State) (l : Fin 4) : (s.pollExpiry l).dle = s.dle := by unfold pollExpiry; dsimp only; (repeat' split) <;> simp
@[simp] theorem pollExpiry_rlu (s : State) (l : Fin 4) : (s.pollExpiry l).rlu = s.rlu := by unfold pollExpiry; dsimp only; (repeat' split) <;> simp
@[simp] theorem pollExpiry_lau (s : State) (l : Fin 4) : (s.pollExpiry l).lau = s.lau := by unfold pollExpiry; dsimp only; (repeat' split) <;> simp
@[simp] theorem pollExpiry_fdu (s : State) (l : Fin 4) : (s.pollExpiry l).fdu = s.fdu := by unfold pollExpiry; dsimp only; (repeat' split) <;> simp
@[simp] theorem pollExpiry_llc (s : State) (l : Fin 4) : (s.pollExpiry l).llc = s.llc := by unfold pollExpiry; dsimp only; (repeat' split) <;> simp
@[simp] theorem pollExpiry_fsc (s : State) (l : Fin 4) : (s.pollExpiry l).fsc = s.fsc := by unfold pollExpiry; dsimp only; (repeat' split) <;> simp
@[simp] theorem pollExpiry_sst (s : State) (l : Fin 4) : (s.pollExpiry l).sst = s.sst := by unfold pollExpiry; dsimp only; (repeat' split) <;> simp
@[simp] theorem pollExpiry_zbi (s : State) (l : Fin 4) : (s.pollExpiry l).zbi = s.zbi := by unfold pollExpiry; dsimp only; (repeat' split) <;> simp
@[simp] theorem pollExpiry_pending (s : State) (l : Fin 4) : (s.pollExpiry l).pending = s.pending := by unfold pollExpiry; dsimp only; (repeat' split) <;> simp

@[simp] theorem endPoll_ct (s : State) (l : Fin 4) (f : Fin 4 → Sensor → Sensor × HandOff) : (s.endPoll l f).ct = s.ct := by unfold endPoll; split <;> rfl
@[simp] theorem endPoll_rlu (s : State) (l : Fin 4) (f : Fin 4 → Sensor → Sensor × HandOff) : (s.endPoll l f).rlu = s.rlu := by unfold endPoll; split <;> rfl
@[simp] theorem endPoll_lau (s : State) (l : Fin 4) (f : Fin 4 → Sensor → Sensor × HandOff) : (s.endPoll l f).lau = s.lau := by unfold endPoll; split <;> rfl
@[simp] theorem endPoll_fdu (s : State) (l : Fin 4) (f : Fin 4 → Sensor → Sensor × HandOff) : (s.endPoll l f).fdu = s.fdu := by unfold endPoll; split <;> rfl
@[simp] theorem endPoll_llc (s : State) (l : Fin 4) (f : Fin 4 → Sensor → Sensor × HandOff) : (s.endPoll l f).llc = s.llc := by unfold endPoll; split <;> rfl
@[simp] theorem endPoll_fsc (s : State) (l : Fin 4) (f : Fin 4 → Sensor → Sensor × HandOff) : (s.endPoll l f).fsc = s.fsc := by unfold endPoll; split <;> rfl
@[simp] theorem endPoll_sst (s : State) (l : Fin 4) (f : Fin 4 → Sensor → Sensor × HandOff) : (s.endPoll l f).sst = s.sst := by unfold endPoll; split <;> rfl
@[simp] theorem endPoll_zbi (s : State) (l : Fin 4) (f : Fin 4 → Sensor → Sensor × HandOff) : (s.endPoll l f).zbi = s.zbi := by unfold endPoll; split <;> rfl
@[simp] theorem endPoll_pending (s : State) (l : Fin 4) (f : Fin 4 → Sensor → Sensor × HandOff) : (s.endPoll l f).pending = s.pending := by unfold endPoll; split <;> rfl

@[simp] theorem replyOn_ct (s : State) (l : Fin 4) (c1 c2 c3 : RxChar) : (s.replyOn l c1 c2 c3).ct = s.ct := by unfold replyOn; simp
@[simp] theorem replyOn_rlu (s : State) (l : Fin 4) (c1 c2 c3 : RxChar) : (s.replyOn l c1 c2 c3).rlu = s.rlu := by unfold replyOn; simp
@[simp] theorem replyOn_lau (s : State) (l : Fin 4) (c1 c2 c3 : RxChar) : (s.replyOn l c1 c2 c3).lau = s.lau := by unfold replyOn; simp
@[simp] theorem replyOn_fdu (s : State) (l : Fin 4) (c1 c2 c3 : RxChar) : (s.replyOn l c1 c2 c3).fdu = s.fdu := by unfold replyOn; simp
@[simp] theorem replyOn_llc (s : State) (l : Fin 4) (c1 c2 c3 : RxChar) : (s.replyOn l c1 c2 c3).llc = s.llc := by unfold replyOn; simp
@[simp] theorem replyOn_fsc (s : State) (l : Fin 4) (c1 c2 c3 : RxChar) : (s.replyOn l c1 c2 c3).fsc = s.fsc := by unfold replyOn; simp
@[simp] theorem replyOn_sst (s : State) (l : Fin 4) (c1 c2 c3 : RxChar) : (s.replyOn l c1 c2 c3).sst = s.sst := by unfold replyOn; simp
@[simp] theorem replyOn_zbi (s : State) (l : Fin 4) (c1 c2 c3 : RxChar) : (s.replyOn l c1 c2 c3).zbi = s.zbi := by unfold replyOn; simp
@[simp] theorem replyOn_pending (s : State) (l : Fin 4) (c1 c2 c3 : RxChar) : (s.replyOn l c1 c2 c3).pending = s.pending := by unfold replyOn; simp

@[simp] theorem pollEvent_ct (s : State) (l : Fin 4) (e : PollEvent) : (s.pollEvent l e).ct = s.ct := by unfold pollEvent; split <;> simp
@[simp] theorem pollEvent_dle (s : State) (l : Fin 4) (e : PollEvent) : (s.pollEvent l e).dle = s.dle := by unfold pollEvent; split <;> simp
@[simp] theorem pollEvent_rlu (s : State) (l : Fin 4) (e : PollEvent) : (s.pollEvent l e).rlu = s.rlu := by unfold pollEvent; split <;> simp
@[simp] theorem pollEvent_lau (s : State) (l : Fin 4) (e : PollEvent) : (s.pollEvent l e).lau = s.lau := by unfold pollEvent; split <;> simp
@[simp] theorem pollEvent_fdu (s : State) (l : Fin 4) (e : PollEvent) : (s.pollEvent l e).fdu = s.fdu := by unfold pollEvent; split <;> simp
@[simp] theorem pollEvent_llc (s : State) (l : Fin 4) (e : PollEvent) : (s.pollEvent l e).llc = s.llc := by unfold pollEvent; split <;> simp
@[simp] theorem pollEvent_fsc (s : State) (l : Fin 4) (e : PollEvent) : (s.pollEvent l e).fsc = s.fsc := by unfold pollEvent; split <;> simp
@[simp] theorem pollEvent_sst (s : State) (l : Fin 4) (e : PollEvent) : (s.pollEvent l e).sst = s.sst := by unfold pollEvent; split <;> simp
@[simp] theorem pollEvent_zbi (s : State) (l : Fin 4) (e : PollEvent) : (s.pollEvent l e).zbi = s.zbi := by unfold pollEvent; split <;> simp
@[simp] theorem pollEvent_pending (s : State) (l : Fin 4) (e : PollEvent) : (s.pollEvent l e).pending = s.pending := by unfold pollEvent; split <;> simp

@[simp] theorem pollWhileHeld_ct (s : State) (l : Fin 4) (e : PollEvent) : (s.pollWhileHeld l e).ct = s.ct := by unfold pollWhileHeld; split <;> rfl
@[simp] theorem pollWhileHeld_dle (s : State) (l : Fin 4) (e : PollEvent) : (s.pollWhileHeld l e).dle = s.dle := by unfold pollWhileHeld; split <;> rfl
@[simp] theorem pollWhileHeld_rlu (s : State) (l : Fin 4) (e : PollEvent) : (s.pollWhileHeld l e).rlu = s.rlu := by unfold pollWhileHeld; split <;> rfl
@[simp] theorem pollWhileHeld_lau (s : State) (l : Fin 4) (e : PollEvent) : (s.pollWhileHeld l e).lau = s.lau := by unfold pollWhileHeld; split <;> rfl
@[simp] theorem pollWhileHeld_fdu (s : State) (l : Fin 4) (e : PollEvent) : (s.pollWhileHeld l e).fdu = s.fdu := by unfold pollWhileHeld; split <;> rfl
@[simp] theorem pollWhileHeld_llc (s : State) (l : Fin 4) (e : PollEvent) : (s.pollWhileHeld l e).llc = s.llc := by unfold pollWhileHeld; split <;> rfl
@[simp] theorem pollWhileHeld_fsc (s : State) (l : Fin 4) (e : PollEvent) : (s.pollWhileHeld l e).fsc = s.fsc := by unfold pollWhileHeld; split <;> rfl
@[simp] theorem pollWhileHeld_sst (s : State) (l : Fin 4) (e : PollEvent) : (s.pollWhileHeld l e).sst = s.sst := by unfold pollWhileHeld; split <;> rfl
@[simp] theorem pollWhileHeld_zbi (s : State) (l : Fin 4) (e : PollEvent) : (s.pollWhileHeld l e).zbi = s.zbi := by unfold pollWhileHeld; split <;> rfl
@[simp] theorem pollWhileHeld_pending (s : State) (l : Fin 4) (e : PollEvent) : (s.pollWhileHeld l e).pending = s.pending := by unfold pollWhileHeld; split <;> rfl

@[simp] theorem noReplyOn_ct (s : State) (l : Fin 4) : (s.noReplyOn l).ct = s.ct := by unfold noReplyOn; simp
@[simp] theorem noReplyOn_rlu (s : State) (l : Fin 4) : (s.noReplyOn l).rlu = s.rlu := by unfold noReplyOn; simp
@[simp] theorem noReplyOn_lau (s : State) (l : Fin 4) : (s.noReplyOn l).lau = s.lau := by unfold noReplyOn; simp
@[simp] theorem noReplyOn_fdu (s : State) (l : Fin 4) : (s.noReplyOn l).fdu = s.fdu := by unfold noReplyOn; simp
@[simp] theorem noReplyOn_llc (s : State) (l : Fin 4) : (s.noReplyOn l).llc = s.llc := by unfold noReplyOn; simp
@[simp] theorem noReplyOn_fsc (s : State) (l : Fin 4) : (s.noReplyOn l).fsc = s.fsc := by unfold noReplyOn; simp
@[simp] theorem noReplyOn_sst (s : State) (l : Fin 4) : (s.noReplyOn l).sst = s.sst := by unfold noReplyOn; simp
@[simp] theorem noReplyOn_zbi (s : State) (l : Fin 4) : (s.noReplyOn l).zbi = s.zbi := by unfold noReplyOn; simp
@[simp] theorem noReplyOn_pending (s : State) (l : Fin 4) : (s.noReplyOn l).pending = s.pending := by unfold noReplyOn; simp

@[simp] theorem healthLimit_ct (s : State) (i : Fin 16) : (s.healthLimit i).ct = s.ct := by unfold healthLimit; split <;> rfl
@[simp] theorem healthLimit_rlu (s : State) (i : Fin 16) : (s.healthLimit i).rlu = s.rlu := by unfold healthLimit; split <;> rfl
@[simp] theorem healthLimit_lau (s : State) (i : Fin 16) : (s.healthLimit i).lau = s.lau := by unfold healthLimit; split <;> rfl
@[simp] theorem healthLimit_fdu (s : State) (i : Fin 16) : (s.healthLimit i).fdu = s.fdu := by unfold healthLimit; split <;> rfl
@[simp] theorem healthLimit_llc (s : State) (i : Fin 16) : (s.healthLimit i).llc = s.llc := by unfold healthLimit; split <;> rfl
@[simp] theorem healthLimit_fsc (s : State) (i : Fin 16) : (s.healthLimit i).fsc = s.fsc := by unfold healthLimit; split <;> rfl
@[simp] theorem healthLimit_sst (s : State) (i : Fin 16) : (s.healthLimit i).sst = s.sst := by unfold healthLimit; split <;> rfl
@[simp] theorem healthLimit_zbi (s : State) (i : Fin 16) : (s.healthLimit i).zbi = s.zbi := by unfold healthLimit; split <;> rfl
@[simp] theorem healthLimit_pending (s : State) (i : Fin 16) : (s.healthLimit i).pending = s.pending := by unfold healthLimit; split <;> rfl

@[simp] theorem sensorsToStandby_ct (s : State) : s.sensorsToStandby.ct = s.ct := rfl
@[simp] theorem sensorsToStandby_rlu (s : State) : s.sensorsToStandby.rlu = s.rlu := rfl
@[simp] theorem sensorsToStandby_lau (s : State) : s.sensorsToStandby.lau = s.lau := rfl
@[simp] theorem sensorsToStandby_fdu (s : State) : s.sensorsToStandby.fdu = s.fdu := rfl
@[simp] theorem sensorsToStandby_llc (s : State) : s.sensorsToStandby.llc = s.llc := rfl
@[simp] theorem sensorsToStandby_fsc (s : State) : s.sensorsToStandby.fsc = s.fsc := rfl
@[simp] theorem sensorsToStandby_sst (s : State) : s.sensorsToStandby.sst = s.sst := rfl
@[simp] theorem sensorsToStandby_zbi (s : State) : s.sensorsToStandby.zbi = s.zbi := rfl
@[simp] theorem sensorsToStandby_pending (s : State) : s.sensorsToStandby.pending = s.pending := rfl

@[simp] theorem sensorsFromStandby_ct (s : State) : s.sensorsFromStandby.ct = s.ct := rfl
@[simp] theorem sensorsFromStandby_dle (s : State) : s.sensorsFromStandby.dle = s.dle := rfl
@[simp] theorem sensorsFromStandby_rlu (s : State) : s.sensorsFromStandby.rlu = s.rlu := rfl
@[simp] theorem sensorsFromStandby_lau (s : State) : s.sensorsFromStandby.lau = s.lau := rfl
@[simp] theorem sensorsFromStandby_fdu (s : State) : s.sensorsFromStandby.fdu = s.fdu := rfl
@[simp] theorem sensorsFromStandby_llc (s : State) : s.sensorsFromStandby.llc = s.llc := rfl
@[simp] theorem sensorsFromStandby_fsc (s : State) : s.sensorsFromStandby.fsc = s.fsc := rfl
@[simp] theorem sensorsFromStandby_sst (s : State) : s.sensorsFromStandby.sst = s.sst := rfl
@[simp] theorem sensorsFromStandby_zbi (s : State) : s.sensorsFromStandby.zbi = s.zbi := rfl
@[simp] theorem sensorsFromStandby_pending (s : State) : s.sensorsFromStandby.pending = s.pending := rfl

@[simp] theorem changeSensor_ct (s : State) (i : Fin 16) (present : Bool) : (s.changeSensor i present).ct = s.ct := rfl
@[simp] theorem changeSensor_rlu (s : State) (i : Fin 16) (present : Bool) : (s.changeSensor i present).rlu = s.rlu := rfl
@[simp] theorem changeSensor_lau (s : State) (i : Fin 16) (present : Bool) : (s.changeSensor i present).lau = s.lau := rfl
@[simp] theorem changeSensor_fdu (s : State) (i : Fin 16) (present : Bool) : (s.changeSensor i present).fdu = s.fdu := rfl
@[simp] theorem changeSensor_llc (s : State) (i : Fin 16) (present : Bool) : (s.changeSensor i present).llc = s.llc := rfl
@[simp] theorem changeSensor_fsc (s : State) (i : Fin 16) (present : Bool) : (s.changeSensor i present).fsc = s.fsc := rfl
@[simp] theorem changeSensor_sst (s : State) (i : Fin 16) (present : Bool) : (s.changeSensor i present).sst = s.sst := rfl
@[simp] theorem changeSensor_zbi (s : State) (i : Fin 16) (present : Bool) : (s.changeSensor i present).zbi = s.zbi := rfl
@[simp] theorem changeSensor_pending (s : State) (i : Fin 16) (present : Bool) : (s.changeSensor i present).pending = s.pending := rfl

end Sys2Proof.Machine.State
end

