-- ==== Sys2Proof/Laws/OpsLaws.lean ====
section
/-! SUPPORT. The frames of the operations over several blocks: which blocks each one leaves as they are. -/

namespace Sys2Proof.Machine.State

@[simp] theorem clampFades_ct (s : State) (p : Fin 8 → Bool) : (s.clampFades p).ct = s.ct := rfl
@[simp] theorem clampFades_slu (s : State) (p : Fin 8 → Bool) : (s.clampFades p).slu = s.slu := rfl
@[simp] theorem clampFades_dle (s : State) (p : Fin 8 → Bool) : (s.clampFades p).dle = s.dle := rfl
@[simp] theorem clampFades_rlu (s : State) (p : Fin 8 → Bool) : (s.clampFades p).rlu = s.rlu := rfl
@[simp] theorem clampFades_lau (s : State) (p : Fin 8 → Bool) : (s.clampFades p).lau = s.lau := rfl
@[simp] theorem clampFades_llc (s : State) (p : Fin 8 → Bool) : (s.clampFades p).llc = s.llc := rfl
@[simp] theorem clampFades_fsc (s : State) (p : Fin 8 → Bool) : (s.clampFades p).fsc = s.fsc := rfl
@[simp] theorem clampFades_sst (s : State) (p : Fin 8 → Bool) : (s.clampFades p).sst = s.sst := rfl
@[simp] theorem clampFades_zbi (s : State) (p : Fin 8 → Bool) : (s.clampFades p).zbi = s.zbi := rfl
@[simp] theorem clampFades_pending (s : State) (p : Fin 8 → Bool) : (s.clampFades p).pending = s.pending := rfl

@[simp] theorem raiseShed_ct (s : State) : s.raiseShed.ct = s.ct := by unfold raiseShed; simp
@[simp] theorem raiseShed_slu (s : State) : s.raiseShed.slu = s.slu := by unfold raiseShed; simp
@[simp] theorem raiseShed_dle (s : State) : s.raiseShed.dle = s.dle := by unfold raiseShed; simp
@[simp] theorem raiseShed_rlu (s : State) : s.raiseShed.rlu = s.rlu := by unfold raiseShed; simp
@[simp] theorem raiseShed_lau (s : State) : s.raiseShed.lau = s.lau := by unfold raiseShed; simp
@[simp] theorem raiseShed_fdu (s : State) : s.raiseShed.fdu = s.fdu := by unfold raiseShed; simp
@[simp] theorem raiseShed_fsc (s : State) : s.raiseShed.fsc = s.fsc := by unfold raiseShed; simp
@[simp] theorem raiseShed_sst (s : State) : s.raiseShed.sst = s.sst := by unfold raiseShed; simp
@[simp] theorem raiseShed_zbi (s : State) : s.raiseShed.zbi = s.zbi := by unfold raiseShed; simp
@[simp] theorem raiseShed_pending (s : State) : s.raiseShed.pending = s.pending := by unfold raiseShed; simp

@[simp] theorem setLatch_ct (s : State) : s.setLatch.ct = s.ct := by unfold setLatch; split <;> simp
@[simp] theorem setLatch_slu (s : State) : s.setLatch.slu = s.slu := by unfold setLatch; split <;> simp
@[simp] theorem setLatch_dle (s : State) : s.setLatch.dle = s.dle := by unfold setLatch; split <;> simp
@[simp] theorem setLatch_rlu (s : State) : s.setLatch.rlu = s.rlu := by unfold setLatch; split <;> simp
@[simp] theorem setLatch_lau (s : State) : s.setLatch.lau = s.lau := by unfold setLatch; split <;> simp
@[simp] theorem setLatch_sst (s : State) : s.setLatch.sst = s.sst := by unfold setLatch; split <;> simp
@[simp] theorem setLatch_zbi (s : State) : s.setLatch.zbi = s.zbi := by unfold setLatch; split <;> simp
@[simp] theorem setLatch_pending (s : State) : s.setLatch.pending = s.pending := by unfold setLatch; split <;> simp

@[simp] theorem enterStandby_ct (s : State) : s.enterStandby.ct = s.ct := by unfold enterStandby; split <;> rfl
@[simp] theorem enterStandby_rlu (s : State) : s.enterStandby.rlu = s.rlu := by unfold enterStandby; split <;> rfl
@[simp] theorem enterStandby_lau (s : State) : s.enterStandby.lau = s.lau := by unfold enterStandby; split <;> rfl
@[simp] theorem enterStandby_fdu (s : State) : s.enterStandby.fdu = s.fdu := by unfold enterStandby; split <;> rfl
@[simp] theorem enterStandby_llc (s : State) : s.enterStandby.llc = s.llc := by unfold enterStandby; split <;> rfl
@[simp] theorem enterStandby_sst (s : State) : s.enterStandby.sst = s.sst := by unfold enterStandby; split <;> rfl
@[simp] theorem enterStandby_zbi (s : State) : s.enterStandby.zbi = s.zbi := by unfold enterStandby; split <;> rfl
@[simp] theorem enterStandby_pending (s : State) : s.enterStandby.pending = s.pending := by unfold enterStandby; split <;> rfl

@[simp] theorem leaveStandby_ct (s : State) : s.leaveStandby.ct = s.ct := by unfold leaveStandby; split <;> rfl
@[simp] theorem leaveStandby_dle (s : State) : s.leaveStandby.dle = s.dle := by unfold leaveStandby; split <;> rfl
@[simp] theorem leaveStandby_rlu (s : State) : s.leaveStandby.rlu = s.rlu := by unfold leaveStandby; split <;> rfl
@[simp] theorem leaveStandby_lau (s : State) : s.leaveStandby.lau = s.lau := by unfold leaveStandby; split <;> rfl
@[simp] theorem leaveStandby_fdu (s : State) : s.leaveStandby.fdu = s.fdu := by unfold leaveStandby; split <;> rfl
@[simp] theorem leaveStandby_llc (s : State) : s.leaveStandby.llc = s.llc := by unfold leaveStandby; split <;> rfl
@[simp] theorem leaveStandby_sst (s : State) : s.leaveStandby.sst = s.sst := by unfold leaveStandby; split <;> rfl
@[simp] theorem leaveStandby_zbi (s : State) : s.leaveStandby.zbi = s.zbi := by unfold leaveStandby; split <;> rfl
@[simp] theorem leaveStandby_pending (s : State) : s.leaveStandby.pending = s.pending := by unfold leaveStandby; split <;> rfl

@[simp] theorem freezeRow_slu (s : State) (r : Fin 8) : (s.freezeRow r).slu = s.slu := by unfold freezeRow; split <;> rfl
@[simp] theorem freezeRow_dle (s : State) (r : Fin 8) : (s.freezeRow r).dle = s.dle := by unfold freezeRow; split <;> rfl
@[simp] theorem freezeRow_rlu (s : State) (r : Fin 8) : (s.freezeRow r).rlu = s.rlu := by unfold freezeRow; split <;> rfl
@[simp] theorem freezeRow_lau (s : State) (r : Fin 8) : (s.freezeRow r).lau = s.lau := by unfold freezeRow; split <;> rfl
@[simp] theorem freezeRow_fdu (s : State) (r : Fin 8) : (s.freezeRow r).fdu = s.fdu := by unfold freezeRow; split <;> rfl
@[simp] theorem freezeRow_llc (s : State) (r : Fin 8) : (s.freezeRow r).llc = s.llc := by unfold freezeRow; split <;> rfl
@[simp] theorem freezeRow_fsc (s : State) (r : Fin 8) : (s.freezeRow r).fsc = s.fsc := by unfold freezeRow; split <;> rfl
@[simp] theorem freezeRow_sst (s : State) (r : Fin 8) : (s.freezeRow r).sst = s.sst := by unfold freezeRow; split <;> rfl
@[simp] theorem freezeRow_zbi (s : State) (r : Fin 8) : (s.freezeRow r).zbi = s.zbi := by unfold freezeRow; split <;> rfl
@[simp] theorem freezeRow_pending (s : State) (r : Fin 8) : (s.freezeRow r).pending = s.pending := by unfold freezeRow; split <;> rfl

@[simp] theorem unfreezeRows_slu (s : State) (p : Fin 8 → Bool) : (s.unfreezeRows p).slu = s.slu := rfl
@[simp] theorem unfreezeRows_dle (s : State) (p : Fin 8 → Bool) : (s.unfreezeRows p).dle = s.dle := rfl
@[simp] theorem unfreezeRows_rlu (s : State) (p : Fin 8 → Bool) : (s.unfreezeRows p).rlu = s.rlu := rfl
@[simp] theorem unfreezeRows_lau (s : State) (p : Fin 8 → Bool) : (s.unfreezeRows p).lau = s.lau := rfl
@[simp] theorem unfreezeRows_fdu (s : State) (p : Fin 8 → Bool) : (s.unfreezeRows p).fdu = s.fdu := rfl
@[simp] theorem unfreezeRows_llc (s : State) (p : Fin 8 → Bool) : (s.unfreezeRows p).llc = s.llc := rfl
@[simp] theorem unfreezeRows_fsc (s : State) (p : Fin 8 → Bool) : (s.unfreezeRows p).fsc = s.fsc := rfl
@[simp] theorem unfreezeRows_sst (s : State) (p : Fin 8 → Bool) : (s.unfreezeRows p).sst = s.sst := rfl
@[simp] theorem unfreezeRows_zbi (s : State) (p : Fin 8 → Bool) : (s.unfreezeRows p).zbi = s.zbi := rfl
@[simp] theorem unfreezeRows_pending (s : State) (p : Fin 8 → Bool) : (s.unfreezeRows p).pending = s.pending := rfl

@[simp] theorem presenceEffects_slu (s : State) (before : CellTable) : (s.presenceEffects before).slu = s.slu := rfl
@[simp] theorem presenceEffects_dle (s : State) (before : CellTable) : (s.presenceEffects before).dle = s.dle := rfl
@[simp] theorem presenceEffects_rlu (s : State) (before : CellTable) : (s.presenceEffects before).rlu = s.rlu := rfl
@[simp] theorem presenceEffects_fsc (s : State) (before : CellTable) : (s.presenceEffects before).fsc = s.fsc := rfl
@[simp] theorem presenceEffects_sst (s : State) (before : CellTable) : (s.presenceEffects before).sst = s.sst := rfl
@[simp] theorem presenceEffects_zbi (s : State) (before : CellTable) : (s.presenceEffects before).zbi = s.zbi := rfl
@[simp] theorem presenceEffects_pending (s : State) (before : CellTable) : (s.presenceEffects before).pending = s.pending := rfl

@[simp] theorem fadeCells_ct (s : State) : s.fadeCells.ct = s.ct := rfl
@[simp] theorem fadeCells_slu (s : State) : s.fadeCells.slu = s.slu := rfl
@[simp] theorem fadeCells_dle (s : State) : s.fadeCells.dle = s.dle := rfl
@[simp] theorem fadeCells_rlu (s : State) : s.fadeCells.rlu = s.rlu := rfl
@[simp] theorem fadeCells_llc (s : State) : s.fadeCells.llc = s.llc := rfl
@[simp] theorem fadeCells_fsc (s : State) : s.fadeCells.fsc = s.fsc := rfl
@[simp] theorem fadeCells_sst (s : State) : s.fadeCells.sst = s.sst := rfl
@[simp] theorem fadeCells_zbi (s : State) : s.fadeCells.zbi = s.zbi := rfl
@[simp] theorem fadeCells_pending (s : State) : s.fadeCells.pending = s.pending := rfl

@[simp] theorem fade_ct (s : State) : s.fade.ct = s.ct := by unfold fade; split <;> simp
@[simp] theorem fade_slu (s : State) : s.fade.slu = s.slu := by unfold fade; split <;> simp
@[simp] theorem fade_dle (s : State) : s.fade.dle = s.dle := by unfold fade; split <;> simp
@[simp] theorem fade_rlu (s : State) : s.fade.rlu = s.rlu := by unfold fade; split <;> simp
@[simp] theorem fade_fsc (s : State) : s.fade.fsc = s.fsc := by unfold fade; split <;> simp
@[simp] theorem fade_sst (s : State) : s.fade.sst = s.sst := by unfold fade; split <;> simp
@[simp] theorem fade_zbi (s : State) : s.fade.zbi = s.zbi := by unfold fade; split <;> simp
@[simp] theorem fade_pending (s : State) : s.fade.pending = s.pending := by unfold fade; split <;> simp

end Sys2Proof.Machine.State
end

