-- ==== Sys2Proof/Laws/RequestLaws.lean ====
section
/-! SUPPORT. The frames of the operations of requests, of the bus and of events: which blocks each one leaves as they are. -/

namespace Sys2Proof.Machine.State

@[simp] theorem beginSave_ct (s : State) : s.beginSave.ct = s.ct := rfl
@[simp] theorem beginSave_slu (s : State) : s.beginSave.slu = s.slu := rfl
@[simp] theorem beginSave_dle (s : State) : s.beginSave.dle = s.dle := rfl
@[simp] theorem beginSave_rlu (s : State) : s.beginSave.rlu = s.rlu := rfl
@[simp] theorem beginSave_lau (s : State) : s.beginSave.lau = s.lau := rfl
@[simp] theorem beginSave_fdu (s : State) : s.beginSave.fdu = s.fdu := rfl
@[simp] theorem beginSave_llc (s : State) : s.beginSave.llc = s.llc := rfl
@[simp] theorem beginSave_fsc (s : State) : s.beginSave.fsc = s.fsc := rfl
@[simp] theorem beginSave_zbi (s : State) : s.beginSave.zbi = s.zbi := rfl
@[simp] theorem beginSave_pending (s : State) : s.beginSave.pending = s.pending := rfl

@[simp] theorem finishSave_ct (s : State) : s.finishSave.ct = s.ct := by unfold finishSave; split <;> rfl
@[simp] theorem finishSave_slu (s : State) : s.finishSave.slu = s.slu := by unfold finishSave; split <;> rfl
@[simp] theorem finishSave_dle (s : State) : s.finishSave.dle = s.dle := by unfold finishSave; split <;> rfl
@[simp] theorem finishSave_rlu (s : State) : s.finishSave.rlu = s.rlu := by unfold finishSave; split <;> rfl
@[simp] theorem finishSave_lau (s : State) : s.finishSave.lau = s.lau := by unfold finishSave; split <;> rfl
@[simp] theorem finishSave_fdu (s : State) : s.finishSave.fdu = s.fdu := by unfold finishSave; split <;> rfl
@[simp] theorem finishSave_llc (s : State) : s.finishSave.llc = s.llc := by unfold finishSave; split <;> rfl
@[simp] theorem finishSave_fsc (s : State) : s.finishSave.fsc = s.fsc := by unfold finishSave; split <;> rfl
@[simp] theorem finishSave_zbi (s : State) : s.finishSave.zbi = s.zbi := by unfold finishSave; split <;> rfl
@[simp] theorem finishSave_pending (s : State) : s.finishSave.pending = s.pending := by unfold finishSave; split <;> rfl

@[simp] theorem discardRequest_ct (s : State) : s.discardRequest.ct = s.ct := rfl
@[simp] theorem discardRequest_slu (s : State) : s.discardRequest.slu = s.slu := rfl
@[simp] theorem discardRequest_dle (s : State) : s.discardRequest.dle = s.dle := rfl
@[simp] theorem discardRequest_rlu (s : State) : s.discardRequest.rlu = s.rlu := rfl
@[simp] theorem discardRequest_lau (s : State) : s.discardRequest.lau = s.lau := rfl
@[simp] theorem discardRequest_fdu (s : State) : s.discardRequest.fdu = s.fdu := rfl
@[simp] theorem discardRequest_llc (s : State) : s.discardRequest.llc = s.llc := rfl
@[simp] theorem discardRequest_fsc (s : State) : s.discardRequest.fsc = s.fsc := rfl
@[simp] theorem discardRequest_sst (s : State) : s.discardRequest.sst = s.sst := rfl
@[simp] theorem discardRequest_pending (s : State) : s.discardRequest.pending = s.pending := rfl

@[simp] theorem enterExecuting_ct (s : State) : s.enterExecuting.ct = s.ct := rfl
@[simp] theorem enterExecuting_slu (s : State) : s.enterExecuting.slu = s.slu := rfl
@[simp] theorem enterExecuting_dle (s : State) : s.enterExecuting.dle = s.dle := rfl
@[simp] theorem enterExecuting_rlu (s : State) : s.enterExecuting.rlu = s.rlu := rfl
@[simp] theorem enterExecuting_lau (s : State) : s.enterExecuting.lau = s.lau := rfl
@[simp] theorem enterExecuting_fdu (s : State) : s.enterExecuting.fdu = s.fdu := rfl
@[simp] theorem enterExecuting_llc (s : State) : s.enterExecuting.llc = s.llc := rfl
@[simp] theorem enterExecuting_fsc (s : State) : s.enterExecuting.fsc = s.fsc := rfl
@[simp] theorem enterExecuting_sst (s : State) : s.enterExecuting.sst = s.sst := rfl
@[simp] theorem enterExecuting_pending (s : State) : s.enterExecuting.pending = s.pending := rfl

@[simp] theorem composeAnswer_ct (s : State) (st : Status) (d : List Byte) : (s.composeAnswer st d).ct = s.ct := rfl
@[simp] theorem composeAnswer_slu (s : State) (st : Status) (d : List Byte) : (s.composeAnswer st d).slu = s.slu := rfl
@[simp] theorem composeAnswer_dle (s : State) (st : Status) (d : List Byte) : (s.composeAnswer st d).dle = s.dle := rfl
@[simp] theorem composeAnswer_rlu (s : State) (st : Status) (d : List Byte) : (s.composeAnswer st d).rlu = s.rlu := rfl
@[simp] theorem composeAnswer_lau (s : State) (st : Status) (d : List Byte) : (s.composeAnswer st d).lau = s.lau := rfl
@[simp] theorem composeAnswer_fdu (s : State) (st : Status) (d : List Byte) : (s.composeAnswer st d).fdu = s.fdu := rfl
@[simp] theorem composeAnswer_llc (s : State) (st : Status) (d : List Byte) : (s.composeAnswer st d).llc = s.llc := rfl
@[simp] theorem composeAnswer_fsc (s : State) (st : Status) (d : List Byte) : (s.composeAnswer st d).fsc = s.fsc := rfl
@[simp] theorem composeAnswer_sst (s : State) (st : Status) (d : List Byte) : (s.composeAnswer st d).sst = s.sst := rfl
@[simp] theorem composeAnswer_pending (s : State) (st : Status) (d : List Byte) : (s.composeAnswer st d).pending = s.pending := rfl

@[simp] theorem answerFloorCall_ct (s : State) : s.answerFloorCall.ct = s.ct := rfl
@[simp] theorem answerFloorCall_slu (s : State) : s.answerFloorCall.slu = s.slu := rfl
@[simp] theorem answerFloorCall_dle (s : State) : s.answerFloorCall.dle = s.dle := rfl
@[simp] theorem answerFloorCall_rlu (s : State) : s.answerFloorCall.rlu = s.rlu := rfl
@[simp] theorem answerFloorCall_lau (s : State) : s.answerFloorCall.lau = s.lau := rfl
@[simp] theorem answerFloorCall_fdu (s : State) : s.answerFloorCall.fdu = s.fdu := rfl
@[simp] theorem answerFloorCall_llc (s : State) : s.answerFloorCall.llc = s.llc := rfl
@[simp] theorem answerFloorCall_fsc (s : State) : s.answerFloorCall.fsc = s.fsc := rfl
@[simp] theorem answerFloorCall_sst (s : State) : s.answerFloorCall.sst = s.sst := rfl
@[simp] theorem answerFloorCall_pending (s : State) : s.answerFloorCall.pending = s.pending := rfl

@[simp] theorem leaveExecuting_ct (s : State) : s.leaveExecuting.ct = s.ct := by unfold leaveExecuting; split <;> rfl
@[simp] theorem leaveExecuting_slu (s : State) : s.leaveExecuting.slu = s.slu := by unfold leaveExecuting; split <;> rfl
@[simp] theorem leaveExecuting_dle (s : State) : s.leaveExecuting.dle = s.dle := by unfold leaveExecuting; split <;> rfl
@[simp] theorem leaveExecuting_rlu (s : State) : s.leaveExecuting.rlu = s.rlu := by unfold leaveExecuting; split <;> rfl
@[simp] theorem leaveExecuting_lau (s : State) : s.leaveExecuting.lau = s.lau := by unfold leaveExecuting; split <;> rfl
@[simp] theorem leaveExecuting_fdu (s : State) : s.leaveExecuting.fdu = s.fdu := by unfold leaveExecuting; split <;> rfl
@[simp] theorem leaveExecuting_llc (s : State) : s.leaveExecuting.llc = s.llc := by unfold leaveExecuting; split <;> rfl
@[simp] theorem leaveExecuting_fsc (s : State) : s.leaveExecuting.fsc = s.fsc := by unfold leaveExecuting; split <;> rfl
@[simp] theorem leaveExecuting_sst (s : State) : s.leaveExecuting.sst = s.sst := by unfold leaveExecuting; split <;> rfl
@[simp] theorem leaveExecuting_pending (s : State) : s.leaveExecuting.pending = s.pending := by unfold leaveExecuting; split <;> rfl

@[simp] theorem notAcked_ct (s : State) : s.notAcked.ct = s.ct := rfl
@[simp] theorem notAcked_slu (s : State) : s.notAcked.slu = s.slu := rfl
@[simp] theorem notAcked_dle (s : State) : s.notAcked.dle = s.dle := rfl
@[simp] theorem notAcked_rlu (s : State) : s.notAcked.rlu = s.rlu := rfl
@[simp] theorem notAcked_lau (s : State) : s.notAcked.lau = s.lau := rfl
@[simp] theorem notAcked_fdu (s : State) : s.notAcked.fdu = s.fdu := rfl
@[simp] theorem notAcked_llc (s : State) : s.notAcked.llc = s.llc := rfl
@[simp] theorem notAcked_fsc (s : State) : s.notAcked.fsc = s.fsc := rfl
@[simp] theorem notAcked_sst (s : State) : s.notAcked.sst = s.sst := rfl
@[simp] theorem notAcked_pending (s : State) : s.notAcked.pending = s.pending := rfl

@[simp] theorem keepByte_ct (s : State) (l : List Byte) : (s.keepByte l).ct = s.ct := rfl
@[simp] theorem keepByte_slu (s : State) (l : List Byte) : (s.keepByte l).slu = s.slu := rfl
@[simp] theorem keepByte_dle (s : State) (l : List Byte) : (s.keepByte l).dle = s.dle := rfl
@[simp] theorem keepByte_rlu (s : State) (l : List Byte) : (s.keepByte l).rlu = s.rlu := rfl
@[simp] theorem keepByte_lau (s : State) (l : List Byte) : (s.keepByte l).lau = s.lau := rfl
@[simp] theorem keepByte_fdu (s : State) (l : List Byte) : (s.keepByte l).fdu = s.fdu := rfl
@[simp] theorem keepByte_llc (s : State) (l : List Byte) : (s.keepByte l).llc = s.llc := rfl
@[simp] theorem keepByte_fsc (s : State) (l : List Byte) : (s.keepByte l).fsc = s.fsc := rfl
@[simp] theorem keepByte_sst (s : State) (l : List Byte) : (s.keepByte l).sst = s.sst := rfl
@[simp] theorem keepByte_pending (s : State) (l : List Byte) : (s.keepByte l).pending = s.pending := rfl

@[simp] theorem setLines_ct (s : State) (l : BusLines) : (s.setLines l).ct = s.ct := rfl
@[simp] theorem setLines_slu (s : State) (l : BusLines) : (s.setLines l).slu = s.slu := rfl
@[simp] theorem setLines_dle (s : State) (l : BusLines) : (s.setLines l).dle = s.dle := rfl
@[simp] theorem setLines_rlu (s : State) (l : BusLines) : (s.setLines l).rlu = s.rlu := rfl
@[simp] theorem setLines_lau (s : State) (l : BusLines) : (s.setLines l).lau = s.lau := rfl
@[simp] theorem setLines_fdu (s : State) (l : BusLines) : (s.setLines l).fdu = s.fdu := rfl
@[simp] theorem setLines_llc (s : State) (l : BusLines) : (s.setLines l).llc = s.llc := rfl
@[simp] theorem setLines_fsc (s : State) (l : BusLines) : (s.setLines l).fsc = s.fsc := rfl
@[simp] theorem setLines_sst (s : State) (l : BusLines) : (s.setLines l).sst = s.sst := rfl
@[simp] theorem setLines_pending (s : State) (l : BusLines) : (s.setLines l).pending = s.pending := rfl

@[simp] theorem rluSecond_ct (s : State) : s.rluSecond.ct = s.ct := by unfold rluSecond; split <;> rfl
@[simp] theorem rluSecond_slu (s : State) : s.rluSecond.slu = s.slu := by unfold rluSecond; split <;> rfl
@[simp] theorem rluSecond_dle (s : State) : s.rluSecond.dle = s.dle := by unfold rluSecond; split <;> rfl
@[simp] theorem rluSecond_lau (s : State) : s.rluSecond.lau = s.lau := by unfold rluSecond; split <;> rfl
@[simp] theorem rluSecond_fdu (s : State) : s.rluSecond.fdu = s.fdu := by unfold rluSecond; split <;> rfl
@[simp] theorem rluSecond_llc (s : State) : s.rluSecond.llc = s.llc := by unfold rluSecond; split <;> rfl
@[simp] theorem rluSecond_fsc (s : State) : s.rluSecond.fsc = s.fsc := by unfold rluSecond; split <;> rfl
@[simp] theorem rluSecond_sst (s : State) : s.rluSecond.sst = s.sst := by unfold rluSecond; split <;> rfl
@[simp] theorem rluSecond_zbi (s : State) : s.rluSecond.zbi = s.zbi := by unfold rluSecond; split <;> rfl
@[simp] theorem rluSecond_pending (s : State) : s.rluSecond.pending = s.pending := by unfold rluSecond; split <;> rfl

@[simp] theorem dleSecond_ct (s : State) : s.dleSecond.ct = s.ct := by unfold dleSecond; split <;> rfl
@[simp] theorem dleSecond_slu (s : State) : s.dleSecond.slu = s.slu := by unfold dleSecond; split <;> rfl
@[simp] theorem dleSecond_rlu (s : State) : s.dleSecond.rlu = s.rlu := by unfold dleSecond; split <;> rfl
@[simp] theorem dleSecond_lau (s : State) : s.dleSecond.lau = s.lau := by unfold dleSecond; split <;> rfl
@[simp] theorem dleSecond_fdu (s : State) : s.dleSecond.fdu = s.fdu := by unfold dleSecond; split <;> rfl
@[simp] theorem dleSecond_llc (s : State) : s.dleSecond.llc = s.llc := by unfold dleSecond; split <;> rfl
@[simp] theorem dleSecond_fsc (s : State) : s.dleSecond.fsc = s.fsc := by unfold dleSecond; split <;> rfl
@[simp] theorem dleSecond_sst (s : State) : s.dleSecond.sst = s.sst := by unfold dleSecond; split <;> rfl
@[simp] theorem dleSecond_zbi (s : State) : s.dleSecond.zbi = s.zbi := by unfold dleSecond; split <;> rfl
@[simp] theorem dleSecond_pending (s : State) : s.dleSecond.pending = s.pending := by unfold dleSecond; split <;> rfl

@[simp] theorem writeRow_slu (s : State) (r : Fin 8) (f d : Nat) : (s.writeRow r f d).slu = s.slu := by unfold writeRow; split <;> simp
@[simp] theorem writeRow_dle (s : State) (r : Fin 8) (f d : Nat) : (s.writeRow r f d).dle = s.dle := by unfold writeRow; split <;> simp
@[simp] theorem writeRow_rlu (s : State) (r : Fin 8) (f d : Nat) : (s.writeRow r f d).rlu = s.rlu := by unfold writeRow; split <;> simp
@[simp] theorem writeRow_lau (s : State) (r : Fin 8) (f d : Nat) : (s.writeRow r f d).lau = s.lau := by unfold writeRow; split <;> simp
@[simp] theorem writeRow_fsc (s : State) (r : Fin 8) (f d : Nat) : (s.writeRow r f d).fsc = s.fsc := by unfold writeRow; split <;> simp
@[simp] theorem writeRow_sst (s : State) (r : Fin 8) (f d : Nat) : (s.writeRow r f d).sst = s.sst := by unfold writeRow; split <;> simp
@[simp] theorem writeRow_zbi (s : State) (r : Fin 8) (f d : Nat) : (s.writeRow r f d).zbi = s.zbi := by unfold writeRow; split <;> simp
@[simp] theorem writeRow_pending (s : State) (r : Fin 8) (f d : Nat) : (s.writeRow r f d).pending = s.pending := by unfold writeRow; split <;> simp

@[simp] theorem writeSlot_ct (s : State) (n : Fin 8) (m : MasterSlot) : (s.writeSlot n m).ct = s.ct := rfl
@[simp] theorem writeSlot_slu (s : State) (n : Fin 8) (m : MasterSlot) : (s.writeSlot n m).slu = s.slu := rfl
@[simp] theorem writeSlot_dle (s : State) (n : Fin 8) (m : MasterSlot) : (s.writeSlot n m).dle = s.dle := rfl
@[simp] theorem writeSlot_lau (s : State) (n : Fin 8) (m : MasterSlot) : (s.writeSlot n m).lau = s.lau := rfl
@[simp] theorem writeSlot_fdu (s : State) (n : Fin 8) (m : MasterSlot) : (s.writeSlot n m).fdu = s.fdu := rfl
@[simp] theorem writeSlot_llc (s : State) (n : Fin 8) (m : MasterSlot) : (s.writeSlot n m).llc = s.llc := rfl
@[simp] theorem writeSlot_fsc (s : State) (n : Fin 8) (m : MasterSlot) : (s.writeSlot n m).fsc = s.fsc := rfl
@[simp] theorem writeSlot_sst (s : State) (n : Fin 8) (m : MasterSlot) : (s.writeSlot n m).sst = s.sst := rfl
@[simp] theorem writeSlot_pending (s : State) (n : Fin 8) (m : MasterSlot) : (s.writeSlot n m).pending = s.pending := rfl

@[simp] theorem setShift_ct (s : State) (i : Fin 16) (k : Nat) : (s.setShift i k).ct = s.ct := rfl
@[simp] theorem setShift_slu (s : State) (i : Fin 16) (k : Nat) : (s.setShift i k).slu = s.slu := rfl
@[simp] theorem setShift_rlu (s : State) (i : Fin 16) (k : Nat) : (s.setShift i k).rlu = s.rlu := rfl
@[simp] theorem setShift_lau (s : State) (i : Fin 16) (k : Nat) : (s.setShift i k).lau = s.lau := rfl
@[simp] theorem setShift_fdu (s : State) (i : Fin 16) (k : Nat) : (s.setShift i k).fdu = s.fdu := rfl
@[simp] theorem setShift_llc (s : State) (i : Fin 16) (k : Nat) : (s.setShift i k).llc = s.llc := rfl
@[simp] theorem setShift_fsc (s : State) (i : Fin 16) (k : Nat) : (s.setShift i k).fsc = s.fsc := rfl
@[simp] theorem setShift_sst (s : State) (i : Fin 16) (k : Nat) : (s.setShift i k).sst = s.sst := rfl
@[simp] theorem setShift_zbi (s : State) (i : Fin 16) (k : Nat) : (s.setShift i k).zbi = s.zbi := rfl
@[simp] theorem setShift_pending (s : State) (i : Fin 16) (k : Nat) : (s.setShift i k).pending = s.pending := rfl

@[simp] theorem setMode_ct (s : State) (m : QuantMode) : (s.setMode m).ct = s.ct := by unfold setMode; split <;> rfl
@[simp] theorem setMode_slu (s : State) (m : QuantMode) : (s.setMode m).slu = s.slu := by unfold setMode; split <;> rfl
@[simp] theorem setMode_dle (s : State) (m : QuantMode) : (s.setMode m).dle = s.dle := by unfold setMode; split <;> rfl
@[simp] theorem setMode_rlu (s : State) (m : QuantMode) : (s.setMode m).rlu = s.rlu := by unfold setMode; split <;> rfl
@[simp] theorem setMode_fdu (s : State) (m : QuantMode) : (s.setMode m).fdu = s.fdu := by unfold setMode; split <;> rfl
@[simp] theorem setMode_llc (s : State) (m : QuantMode) : (s.setMode m).llc = s.llc := by unfold setMode; split <;> rfl
@[simp] theorem setMode_fsc (s : State) (m : QuantMode) : (s.setMode m).fsc = s.fsc := by unfold setMode; split <;> rfl
@[simp] theorem setMode_sst (s : State) (m : QuantMode) : (s.setMode m).sst = s.sst := by unfold setMode; split <;> rfl
@[simp] theorem setMode_zbi (s : State) (m : QuantMode) : (s.setMode m).zbi = s.zbi := by unfold setMode; split <;> rfl
@[simp] theorem setMode_pending (s : State) (m : QuantMode) : (s.setMode m).pending = s.pending := by unfold setMode; split <;> rfl

@[simp] theorem setInterval_ct (s : State) (v : Nat) : (s.setInterval v).ct = s.ct := by unfold setInterval; split <;> simp
@[simp] theorem setInterval_slu (s : State) (v : Nat) : (s.setInterval v).slu = s.slu := by unfold setInterval; split <;> simp
@[simp] theorem setInterval_dle (s : State) (v : Nat) : (s.setInterval v).dle = s.dle := by unfold setInterval; split <;> simp
@[simp] theorem setInterval_rlu (s : State) (v : Nat) : (s.setInterval v).rlu = s.rlu := by unfold setInterval; split <;> simp
@[simp] theorem setInterval_lau (s : State) (v : Nat) : (s.setInterval v).lau = s.lau := by unfold setInterval; split <;> simp
@[simp] theorem setInterval_fdu (s : State) (v : Nat) : (s.setInterval v).fdu = s.fdu := by unfold setInterval; split <;> simp
@[simp] theorem setInterval_fsc (s : State) (v : Nat) : (s.setInterval v).fsc = s.fsc := by unfold setInterval; split <;> simp
@[simp] theorem setInterval_sst (s : State) (v : Nat) : (s.setInterval v).sst = s.sst := by unfold setInterval; split <;> simp
@[simp] theorem setInterval_zbi (s : State) (v : Nat) : (s.setInterval v).zbi = s.zbi := by unfold setInterval; split <;> simp
@[simp] theorem setInterval_pending (s : State) (v : Nat) : (s.setInterval v).pending = s.pending := by unfold setInterval; split <;> simp

@[simp] theorem setOwn_ct (s : State) (a : Byte) : (s.setOwn a).ct = s.ct := by unfold setOwn; split <;> rfl
@[simp] theorem setOwn_slu (s : State) (a : Byte) : (s.setOwn a).slu = s.slu := by unfold setOwn; split <;> rfl
@[simp] theorem setOwn_dle (s : State) (a : Byte) : (s.setOwn a).dle = s.dle := by unfold setOwn; split <;> rfl
@[simp] theorem setOwn_rlu (s : State) (a : Byte) : (s.setOwn a).rlu = s.rlu := by unfold setOwn; split <;> rfl
@[simp] theorem setOwn_lau (s : State) (a : Byte) : (s.setOwn a).lau = s.lau := by unfold setOwn; split <;> rfl
@[simp] theorem setOwn_fdu (s : State) (a : Byte) : (s.setOwn a).fdu = s.fdu := by unfold setOwn; split <;> rfl
@[simp] theorem setOwn_llc (s : State) (a : Byte) : (s.setOwn a).llc = s.llc := by unfold setOwn; split <;> rfl
@[simp] theorem setOwn_fsc (s : State) (a : Byte) : (s.setOwn a).fsc = s.fsc := by unfold setOwn; split <;> rfl
@[simp] theorem setOwn_sst (s : State) (a : Byte) : (s.setOwn a).sst = s.sst := by unfold setOwn; split <;> rfl
@[simp] theorem setOwn_pending (s : State) (a : Byte) : (s.setOwn a).pending = s.pending := by unfold setOwn; split <;> rfl

@[simp] theorem shednLevel_ct (s : State) (high : Bool) : (s.shednLevel high).ct = s.ct := by unfold shednLevel; split <;> rfl
@[simp] theorem shednLevel_slu (s : State) (high : Bool) : (s.shednLevel high).slu = s.slu := by unfold shednLevel; split <;> rfl
@[simp] theorem shednLevel_dle (s : State) (high : Bool) : (s.shednLevel high).dle = s.dle := by unfold shednLevel; split <;> rfl
@[simp] theorem shednLevel_rlu (s : State) (high : Bool) : (s.shednLevel high).rlu = s.rlu := by unfold shednLevel; split <;> rfl
@[simp] theorem shednLevel_lau (s : State) (high : Bool) : (s.shednLevel high).lau = s.lau := by unfold shednLevel; split <;> rfl
@[simp] theorem shednLevel_fdu (s : State) (high : Bool) : (s.shednLevel high).fdu = s.fdu := by unfold shednLevel; split <;> rfl
@[simp] theorem shednLevel_llc (s : State) (high : Bool) : (s.shednLevel high).llc = s.llc := by unfold shednLevel; split <;> rfl
@[simp] theorem shednLevel_sst (s : State) (high : Bool) : (s.shednLevel high).sst = s.sst := by unfold shednLevel; split <;> rfl
@[simp] theorem shednLevel_zbi (s : State) (high : Bool) : (s.shednLevel high).zbi = s.zbi := by unfold shednLevel; split <;> rfl
@[simp] theorem shednLevel_pending (s : State) (high : Bool) : (s.shednLevel high).pending = s.pending := by unfold shednLevel; split <;> rfl

@[simp] theorem observe_ct (s : State) (high : Bool) : (s.observe high).ct = s.ct := rfl
@[simp] theorem observe_slu (s : State) (high : Bool) : (s.observe high).slu = s.slu := rfl
@[simp] theorem observe_dle (s : State) (high : Bool) : (s.observe high).dle = s.dle := rfl
@[simp] theorem observe_rlu (s : State) (high : Bool) : (s.observe high).rlu = s.rlu := rfl
@[simp] theorem observe_lau (s : State) (high : Bool) : (s.observe high).lau = s.lau := rfl
@[simp] theorem observe_fdu (s : State) (high : Bool) : (s.observe high).fdu = s.fdu := rfl
@[simp] theorem observe_llc (s : State) (high : Bool) : (s.observe high).llc = s.llc := rfl
@[simp] theorem observe_sst (s : State) (high : Bool) : (s.observe high).sst = s.sst := rfl
@[simp] theorem observe_zbi (s : State) (high : Bool) : (s.observe high).zbi = s.zbi := rfl
@[simp] theorem observe_pending (s : State) (high : Bool) : (s.observe high).pending = s.pending := rfl

@[simp] theorem lineLow_ct (s : State) : s.lineLow.ct = s.ct := by unfold lineLow; split <;> simp
@[simp] theorem lineLow_slu (s : State) : s.lineLow.slu = s.slu := by unfold lineLow; split <;> simp
@[simp] theorem lineLow_dle (s : State) : s.lineLow.dle = s.dle := by unfold lineLow; split <;> simp
@[simp] theorem lineLow_rlu (s : State) : s.lineLow.rlu = s.rlu := by unfold lineLow; split <;> simp
@[simp] theorem lineLow_lau (s : State) : s.lineLow.lau = s.lau := by unfold lineLow; split <;> simp
@[simp] theorem lineLow_sst (s : State) : s.lineLow.sst = s.sst := by unfold lineLow; split <;> simp
@[simp] theorem lineLow_zbi (s : State) : s.lineLow.zbi = s.zbi := by unfold lineLow; split <;> simp
@[simp] theorem lineLow_pending (s : State) : s.lineLow.pending = s.pending := by unfold lineLow; split <;> simp

@[simp] theorem lineHigh_ct (s : State) : s.lineHigh.ct = s.ct := rfl
@[simp] theorem lineHigh_slu (s : State) : s.lineHigh.slu = s.slu := rfl
@[simp] theorem lineHigh_dle (s : State) : s.lineHigh.dle = s.dle := rfl
@[simp] theorem lineHigh_rlu (s : State) : s.lineHigh.rlu = s.rlu := rfl
@[simp] theorem lineHigh_lau (s : State) : s.lineHigh.lau = s.lau := rfl
@[simp] theorem lineHigh_fdu (s : State) : s.lineHigh.fdu = s.fdu := rfl
@[simp] theorem lineHigh_llc (s : State) : s.lineHigh.llc = s.llc := rfl
@[simp] theorem lineHigh_sst (s : State) : s.lineHigh.sst = s.sst := rfl
@[simp] theorem lineHigh_zbi (s : State) : s.lineHigh.zbi = s.zbi := rfl
@[simp] theorem lineHigh_pending (s : State) : s.lineHigh.pending = s.pending := rfl

@[simp] theorem ignoreAddress_ct (s : State) : s.ignoreAddress.ct = s.ct := rfl
@[simp] theorem ignoreAddress_slu (s : State) : s.ignoreAddress.slu = s.slu := rfl
@[simp] theorem ignoreAddress_dle (s : State) : s.ignoreAddress.dle = s.dle := rfl
@[simp] theorem ignoreAddress_rlu (s : State) : s.ignoreAddress.rlu = s.rlu := rfl
@[simp] theorem ignoreAddress_lau (s : State) : s.ignoreAddress.lau = s.lau := rfl
@[simp] theorem ignoreAddress_fdu (s : State) : s.ignoreAddress.fdu = s.fdu := rfl
@[simp] theorem ignoreAddress_llc (s : State) : s.ignoreAddress.llc = s.llc := rfl
@[simp] theorem ignoreAddress_fsc (s : State) : s.ignoreAddress.fsc = s.fsc := rfl
@[simp] theorem ignoreAddress_sst (s : State) : s.ignoreAddress.sst = s.sst := rfl
@[simp] theorem ignoreAddress_pending (s : State) : s.ignoreAddress.pending = s.pending := rfl

@[simp] theorem beginRequest_ct (s : State) (b : Byte) : (s.beginRequest b).ct = s.ct := rfl
@[simp] theorem beginRequest_slu (s : State) (b : Byte) : (s.beginRequest b).slu = s.slu := rfl
@[simp] theorem beginRequest_dle (s : State) (b : Byte) : (s.beginRequest b).dle = s.dle := rfl
@[simp] theorem beginRequest_rlu (s : State) (b : Byte) : (s.beginRequest b).rlu = s.rlu := rfl
@[simp] theorem beginRequest_lau (s : State) (b : Byte) : (s.beginRequest b).lau = s.lau := rfl
@[simp] theorem beginRequest_fdu (s : State) (b : Byte) : (s.beginRequest b).fdu = s.fdu := rfl
@[simp] theorem beginRequest_llc (s : State) (b : Byte) : (s.beginRequest b).llc = s.llc := rfl
@[simp] theorem beginRequest_fsc (s : State) (b : Byte) : (s.beginRequest b).fsc = s.fsc := rfl
@[simp] theorem beginRequest_sst (s : State) (b : Byte) : (s.beginRequest b).sst = s.sst := rfl
@[simp] theorem beginRequest_pending (s : State) (b : Byte) : (s.beginRequest b).pending = s.pending := rfl

@[simp] theorem beginReply_ct (s : State) : s.beginReply.ct = s.ct := rfl
@[simp] theorem beginReply_slu (s : State) : s.beginReply.slu = s.slu := rfl
@[simp] theorem beginReply_dle (s : State) : s.beginReply.dle = s.dle := rfl
@[simp] theorem beginReply_rlu (s : State) : s.beginReply.rlu = s.rlu := rfl
@[simp] theorem beginReply_lau (s : State) : s.beginReply.lau = s.lau := rfl
@[simp] theorem beginReply_fdu (s : State) : s.beginReply.fdu = s.fdu := rfl
@[simp] theorem beginReply_llc (s : State) : s.beginReply.llc = s.llc := rfl
@[simp] theorem beginReply_fsc (s : State) : s.beginReply.fsc = s.fsc := rfl
@[simp] theorem beginReply_sst (s : State) : s.beginReply.sst = s.sst := rfl
@[simp] theorem beginReply_pending (s : State) : s.beginReply.pending = s.pending := rfl

@[simp] theorem address_ct (s : State) (b : Byte) : (s.address b).ct = s.ct := by unfold address; (repeat' split) <;> rfl
@[simp] theorem address_slu (s : State) (b : Byte) : (s.address b).slu = s.slu := by unfold address; (repeat' split) <;> rfl
@[simp] theorem address_dle (s : State) (b : Byte) : (s.address b).dle = s.dle := by unfold address; (repeat' split) <;> rfl
@[simp] theorem address_rlu (s : State) (b : Byte) : (s.address b).rlu = s.rlu := by unfold address; (repeat' split) <;> rfl
@[simp] theorem address_lau (s : State) (b : Byte) : (s.address b).lau = s.lau := by unfold address; (repeat' split) <;> rfl
@[simp] theorem address_fdu (s : State) (b : Byte) : (s.address b).fdu = s.fdu := by unfold address; (repeat' split) <;> rfl
@[simp] theorem address_llc (s : State) (b : Byte) : (s.address b).llc = s.llc := by unfold address; (repeat' split) <;> rfl
@[simp] theorem address_fsc (s : State) (b : Byte) : (s.address b).fsc = s.fsc := by unfold address; (repeat' split) <;> rfl
@[simp] theorem address_sst (s : State) (b : Byte) : (s.address b).sst = s.sst := by unfold address; (repeat' split) <;> rfl
@[simp] theorem address_pending (s : State) (b : Byte) : (s.address b).pending = s.pending := by unfold address; (repeat' split) <;> rfl

@[simp] theorem readReply_ct (s : State) (n : Nat) (k : Bool) : (s.readReply n k).ct = s.ct := by unfold readReply; split <;> rfl
@[simp] theorem readReply_slu (s : State) (n : Nat) (k : Bool) : (s.readReply n k).slu = s.slu := by unfold readReply; split <;> rfl
@[simp] theorem readReply_dle (s : State) (n : Nat) (k : Bool) : (s.readReply n k).dle = s.dle := by unfold readReply; split <;> rfl
@[simp] theorem readReply_rlu (s : State) (n : Nat) (k : Bool) : (s.readReply n k).rlu = s.rlu := by unfold readReply; split <;> rfl
@[simp] theorem readReply_lau (s : State) (n : Nat) (k : Bool) : (s.readReply n k).lau = s.lau := by unfold readReply; split <;> rfl
@[simp] theorem readReply_fdu (s : State) (n : Nat) (k : Bool) : (s.readReply n k).fdu = s.fdu := by unfold readReply; split <;> rfl
@[simp] theorem readReply_llc (s : State) (n : Nat) (k : Bool) : (s.readReply n k).llc = s.llc := by unfold readReply; split <;> rfl
@[simp] theorem readReply_fsc (s : State) (n : Nat) (k : Bool) : (s.readReply n k).fsc = s.fsc := by unfold readReply; split <;> rfl
@[simp] theorem readReply_sst (s : State) (n : Nat) (k : Bool) : (s.readReply n k).sst = s.sst := by unfold readReply; split <;> rfl
@[simp] theorem readReply_pending (s : State) (n : Nat) (k : Bool) : (s.readReply n k).pending = s.pending := by unfold readReply; split <;> rfl

@[simp] theorem endTransfer_ct (s : State) : s.endTransfer.ct = s.ct := rfl
@[simp] theorem endTransfer_slu (s : State) : s.endTransfer.slu = s.slu := rfl
@[simp] theorem endTransfer_dle (s : State) : s.endTransfer.dle = s.dle := rfl
@[simp] theorem endTransfer_rlu (s : State) : s.endTransfer.rlu = s.rlu := rfl
@[simp] theorem endTransfer_lau (s : State) : s.endTransfer.lau = s.lau := rfl
@[simp] theorem endTransfer_fdu (s : State) : s.endTransfer.fdu = s.fdu := rfl
@[simp] theorem endTransfer_llc (s : State) : s.endTransfer.llc = s.llc := rfl
@[simp] theorem endTransfer_fsc (s : State) : s.endTransfer.fsc = s.fsc := rfl
@[simp] theorem endTransfer_sst (s : State) : s.endTransfer.sst = s.sst := rfl
@[simp] theorem endTransfer_pending (s : State) : s.endTransfer.pending = s.pending := rfl

@[simp] theorem startCondition_ct (s : State) : s.startCondition.ct = s.ct := by unfold startCondition; split <;> rfl
@[simp] theorem startCondition_slu (s : State) : s.startCondition.slu = s.slu := by unfold startCondition; split <;> rfl
@[simp] theorem startCondition_dle (s : State) : s.startCondition.dle = s.dle := by unfold startCondition; split <;> rfl
@[simp] theorem startCondition_rlu (s : State) : s.startCondition.rlu = s.rlu := by unfold startCondition; split <;> rfl
@[simp] theorem startCondition_lau (s : State) : s.startCondition.lau = s.lau := by unfold startCondition; split <;> rfl
@[simp] theorem startCondition_fdu (s : State) : s.startCondition.fdu = s.fdu := by unfold startCondition; split <;> rfl
@[simp] theorem startCondition_llc (s : State) : s.startCondition.llc = s.llc := by unfold startCondition; split <;> rfl
@[simp] theorem startCondition_fsc (s : State) : s.startCondition.fsc = s.fsc := by unfold startCondition; split <;> rfl
@[simp] theorem startCondition_sst (s : State) : s.startCondition.sst = s.sst := by unfold startCondition; split <;> rfl
@[simp] theorem startCondition_pending (s : State) : s.startCondition.pending = s.pending := by unfold startCondition; split <;> rfl

@[simp] theorem clockRises_ct (s : State) : s.clockRises.ct = s.ct := by unfold clockRises; dsimp only; (repeat' split) <;> simp
@[simp] theorem clockRises_slu (s : State) : s.clockRises.slu = s.slu := by unfold clockRises; dsimp only; (repeat' split) <;> simp
@[simp] theorem clockRises_dle (s : State) : s.clockRises.dle = s.dle := by unfold clockRises; dsimp only; (repeat' split) <;> simp
@[simp] theorem clockRises_rlu (s : State) : s.clockRises.rlu = s.rlu := by unfold clockRises; dsimp only; (repeat' split) <;> simp
@[simp] theorem clockRises_lau (s : State) : s.clockRises.lau = s.lau := by unfold clockRises; dsimp only; (repeat' split) <;> simp
@[simp] theorem clockRises_fdu (s : State) : s.clockRises.fdu = s.fdu := by unfold clockRises; dsimp only; (repeat' split) <;> simp
@[simp] theorem clockRises_llc (s : State) : s.clockRises.llc = s.llc := by unfold clockRises; dsimp only; (repeat' split) <;> simp
@[simp] theorem clockRises_fsc (s : State) : s.clockRises.fsc = s.fsc := by unfold clockRises; dsimp only; (repeat' split) <;> simp
@[simp] theorem clockRises_sst (s : State) : s.clockRises.sst = s.sst := by unfold clockRises; dsimp only; (repeat' split) <;> simp
@[simp] theorem clockRises_pending (s : State) : s.clockRises.pending = s.pending := by unfold clockRises; dsimp only; (repeat' split) <;> simp

@[simp] theorem clocked_ct (s : State) : s.clocked.ct = s.ct := rfl
@[simp] theorem clocked_slu (s : State) : s.clocked.slu = s.slu := rfl
@[simp] theorem clocked_dle (s : State) : s.clocked.dle = s.dle := rfl
@[simp] theorem clocked_rlu (s : State) : s.clocked.rlu = s.rlu := rfl
@[simp] theorem clocked_lau (s : State) : s.clocked.lau = s.lau := rfl
@[simp] theorem clocked_fdu (s : State) : s.clocked.fdu = s.fdu := rfl
@[simp] theorem clocked_llc (s : State) : s.clocked.llc = s.llc := rfl
@[simp] theorem clocked_fsc (s : State) : s.clocked.fsc = s.fsc := rfl
@[simp] theorem clocked_sst (s : State) : s.clocked.sst = s.sst := rfl
@[simp] theorem clocked_pending (s : State) : s.clocked.pending = s.pending := rfl

@[simp] theorem driveNext_ct (s : State) : s.driveNext.ct = s.ct := rfl
@[simp] theorem driveNext_slu (s : State) : s.driveNext.slu = s.slu := rfl
@[simp] theorem driveNext_dle (s : State) : s.driveNext.dle = s.dle := rfl
@[simp] theorem driveNext_rlu (s : State) : s.driveNext.rlu = s.rlu := rfl
@[simp] theorem driveNext_lau (s : State) : s.driveNext.lau = s.lau := rfl
@[simp] theorem driveNext_fdu (s : State) : s.driveNext.fdu = s.fdu := rfl
@[simp] theorem driveNext_llc (s : State) : s.driveNext.llc = s.llc := rfl
@[simp] theorem driveNext_fsc (s : State) : s.driveNext.fsc = s.fsc := rfl
@[simp] theorem driveNext_sst (s : State) : s.driveNext.sst = s.sst := rfl
@[simp] theorem driveNext_pending (s : State) : s.driveNext.pending = s.pending := rfl

@[simp] theorem readWhole_ct (s : State) (n : Nat) (k : Bool) : (s.readWhole n k).ct = s.ct := by unfold readWhole; (repeat' split) <;> simp
@[simp] theorem readWhole_slu (s : State) (n : Nat) (k : Bool) : (s.readWhole n k).slu = s.slu := by unfold readWhole; (repeat' split) <;> simp
@[simp] theorem readWhole_dle (s : State) (n : Nat) (k : Bool) : (s.readWhole n k).dle = s.dle := by unfold readWhole; (repeat' split) <;> simp
@[simp] theorem readWhole_rlu (s : State) (n : Nat) (k : Bool) : (s.readWhole n k).rlu = s.rlu := by unfold readWhole; (repeat' split) <;> simp
@[simp] theorem readWhole_lau (s : State) (n : Nat) (k : Bool) : (s.readWhole n k).lau = s.lau := by unfold readWhole; (repeat' split) <;> simp
@[simp] theorem readWhole_fdu (s : State) (n : Nat) (k : Bool) : (s.readWhole n k).fdu = s.fdu := by unfold readWhole; (repeat' split) <;> simp
@[simp] theorem readWhole_llc (s : State) (n : Nat) (k : Bool) : (s.readWhole n k).llc = s.llc := by unfold readWhole; (repeat' split) <;> simp
@[simp] theorem readWhole_fsc (s : State) (n : Nat) (k : Bool) : (s.readWhole n k).fsc = s.fsc := by unfold readWhole; (repeat' split) <;> simp
@[simp] theorem readWhole_sst (s : State) (n : Nat) (k : Bool) : (s.readWhole n k).sst = s.sst := by unfold readWhole; (repeat' split) <;> simp
@[simp] theorem readWhole_pending (s : State) (n : Nat) (k : Bool) : (s.readWhole n k).pending = s.pending := by unfold readWhole; (repeat' split) <;> simp

@[simp] theorem driven_ct (s : State) (c d : Bool) : (s.driven c d).ct = s.ct := rfl
@[simp] theorem driven_slu (s : State) (c d : Bool) : (s.driven c d).slu = s.slu := rfl
@[simp] theorem driven_dle (s : State) (c d : Bool) : (s.driven c d).dle = s.dle := rfl
@[simp] theorem driven_rlu (s : State) (c d : Bool) : (s.driven c d).rlu = s.rlu := rfl
@[simp] theorem driven_lau (s : State) (c d : Bool) : (s.driven c d).lau = s.lau := rfl
@[simp] theorem driven_fdu (s : State) (c d : Bool) : (s.driven c d).fdu = s.fdu := rfl
@[simp] theorem driven_llc (s : State) (c d : Bool) : (s.driven c d).llc = s.llc := rfl
@[simp] theorem driven_fsc (s : State) (c d : Bool) : (s.driven c d).fsc = s.fsc := rfl
@[simp] theorem driven_sst (s : State) (c d : Bool) : (s.driven c d).sst = s.sst := rfl
@[simp] theorem driven_pending (s : State) (c d : Bool) : (s.driven c d).pending = s.pending := rfl

@[simp] theorem pinWhileHeld_ct (s : State) (e : PinEvent) : (s.pinWhileHeld e).ct = s.ct := by unfold pinWhileHeld; split <;> simp
@[simp] theorem pinWhileHeld_slu (s : State) (e : PinEvent) : (s.pinWhileHeld e).slu = s.slu := by unfold pinWhileHeld; split <;> simp
@[simp] theorem pinWhileHeld_dle (s : State) (e : PinEvent) : (s.pinWhileHeld e).dle = s.dle := by unfold pinWhileHeld; split <;> simp
@[simp] theorem pinWhileHeld_rlu (s : State) (e : PinEvent) : (s.pinWhileHeld e).rlu = s.rlu := by unfold pinWhileHeld; split <;> simp
@[simp] theorem pinWhileHeld_lau (s : State) (e : PinEvent) : (s.pinWhileHeld e).lau = s.lau := by unfold pinWhileHeld; split <;> simp
@[simp] theorem pinWhileHeld_fdu (s : State) (e : PinEvent) : (s.pinWhileHeld e).fdu = s.fdu := by unfold pinWhileHeld; split <;> simp
@[simp] theorem pinWhileHeld_llc (s : State) (e : PinEvent) : (s.pinWhileHeld e).llc = s.llc := by unfold pinWhileHeld; split <;> simp
@[simp] theorem pinWhileHeld_sst (s : State) (e : PinEvent) : (s.pinWhileHeld e).sst = s.sst := by unfold pinWhileHeld; split <;> simp
@[simp] theorem pinWhileHeld_pending (s : State) (e : PinEvent) : (s.pinWhileHeld e).pending = s.pending := by unfold pinWhileHeld; split <;> simp

@[simp] theorem rowBecomesDue_ct (s : State) (r : Fin 8) : (s.rowBecomesDue r).ct = s.ct := by unfold rowBecomesDue; split <;> simp
@[simp] theorem rowBecomesDue_slu (s : State) (r : Fin 8) : (s.rowBecomesDue r).slu = s.slu := by unfold rowBecomesDue; split <;> simp
@[simp] theorem rowBecomesDue_dle (s : State) (r : Fin 8) : (s.rowBecomesDue r).dle = s.dle := by unfold rowBecomesDue; split <;> simp
@[simp] theorem rowBecomesDue_rlu (s : State) (r : Fin 8) : (s.rowBecomesDue r).rlu = s.rlu := by unfold rowBecomesDue; split <;> simp
@[simp] theorem rowBecomesDue_lau (s : State) (r : Fin 8) : (s.rowBecomesDue r).lau = s.lau := by unfold rowBecomesDue; split <;> simp
@[simp] theorem rowBecomesDue_fdu (s : State) (r : Fin 8) : (s.rowBecomesDue r).fdu = s.fdu := by unfold rowBecomesDue; split <;> simp
@[simp] theorem rowBecomesDue_fsc (s : State) (r : Fin 8) : (s.rowBecomesDue r).fsc = s.fsc := by unfold rowBecomesDue; split <;> simp
@[simp] theorem rowBecomesDue_sst (s : State) (r : Fin 8) : (s.rowBecomesDue r).sst = s.sst := by unfold rowBecomesDue; split <;> simp
@[simp] theorem rowBecomesDue_zbi (s : State) (r : Fin 8) : (s.rowBecomesDue r).zbi = s.zbi := by unfold rowBecomesDue; split <;> simp
@[simp] theorem rowBecomesDue_pending (s : State) (r : Fin 8) : (s.rowBecomesDue r).pending = s.pending := by unfold rowBecomesDue; split <;> simp

@[simp] theorem reInitExpiry_ct (s : State) : s.reInitExpiry.ct = s.ct := by unfold reInitExpiry; split <;> simp
@[simp] theorem reInitExpiry_slu (s : State) : s.reInitExpiry.slu = s.slu := by unfold reInitExpiry; split <;> simp
@[simp] theorem reInitExpiry_dle (s : State) : s.reInitExpiry.dle = s.dle := by unfold reInitExpiry; split <;> simp
@[simp] theorem reInitExpiry_rlu (s : State) : s.reInitExpiry.rlu = s.rlu := by unfold reInitExpiry; split <;> simp
@[simp] theorem reInitExpiry_lau (s : State) : s.reInitExpiry.lau = s.lau := by unfold reInitExpiry; split <;> simp
@[simp] theorem reInitExpiry_fdu (s : State) : s.reInitExpiry.fdu = s.fdu := by unfold reInitExpiry; split <;> simp
@[simp] theorem reInitExpiry_fsc (s : State) : s.reInitExpiry.fsc = s.fsc := by unfold reInitExpiry; split <;> simp
@[simp] theorem reInitExpiry_sst (s : State) : s.reInitExpiry.sst = s.sst := by unfold reInitExpiry; split <;> simp
@[simp] theorem reInitExpiry_zbi (s : State) : s.reInitExpiry.zbi = s.zbi := by unfold reInitExpiry; split <;> simp
@[simp] theorem reInitExpiry_pending (s : State) : s.reInitExpiry.pending = s.pending := by unfold reInitExpiry; split <;> simp

end Sys2Proof.Machine.State
end

