-- ==== Sys2Proof/Laws/Bus.lean ====
section
/-! SUPPORT. The zone bus: the small lemmas of its lines, what one byte written does (R162), what a whole request's bytes come to, and
what each change of the lines does (R159). -/

namespace Sys2Proof.Machine

namespace State

/-! ## Setters -/

@[simp] theorem setLines_zbi (s : State) (l : BusLines) : (s.setLines l).zbi = { s.zbi with lines := l } := rfl

@[simp] theorem clocked_zbi (s : State) : s.clocked.zbi = { s.zbi with lines := s.zbi.lines.clocked } := rfl

@[simp] theorem clocked_clocked (s : State) : s.clocked.clocked = s.clocked := rfl

@[simp] theorem keepByte_clocked (s : State) (l : List Byte) : (s.keepByte l).clocked = s.clocked.keepByte l := rfl

@[simp] theorem driven_zbi (s : State) (c d : Bool) :
    (s.driven c d).zbi = { s.zbi with lines := { s.zbi.lines with zcl := c, zda := d } } := rfl

@[simp] theorem keepByte_zbi (s : State) (l : List Byte) :
    (s.keepByte l).zbi = { s.zbi with request := some l, acked := true } := rfl

@[simp] theorem keepByte_keepByte (s : State) (l m : List Byte) : (s.keepByte l).keepByte m = s.keepByte m := rfl

@[simp] theorem keepByte_discardRequest (s : State) (l : List Byte) : (s.keepByte l).discardRequest = s.discardRequest := rfl

@[simp] theorem keepByte_enterExecuting (s : State) (l : List Byte) : (s.keepByte l).enterExecuting = s.enterExecuting := rfl

@[simp] theorem keepByte_takeRequest (s : State) (l : List Byte) (floorOk : Bool) (answer : State → Answer) :
    (s.keepByte l).takeRequest floorOk answer = s.takeRequest floorOk answer := rfl

@[simp] theorem keepByte_takeCode (s : State) (l : List Byte) (code source : Byte) (p : List Byte) :
    (s.keepByte l).takeCode code source p = s.takeCode code source p := rfl

@[simp] theorem driveNext_zbi (s : State) :
    s.driveNext.zbi = { s.zbi with lines := { s.zbi.lines with pullsZda := !s.zbi.lines.zcl && s.pullsForBit } } := rfl

@[simp] theorem observe_fsc (s : State) (high : Bool) :
    (s.observe high).fsc = { s.fsc with shedn := high, steady := Timing.qualify, lineAsserted := !high } := rfl

/-- A level at SHEDn changes the level and the time at it, and only where it is new (R150). -/
theorem shednLevel_fsc (s : State) (high : Bool) :
    (s.shednLevel high).fsc = if high = s.fsc.shedn then s.fsc else { s.fsc with shedn := high, steady := 0 } := by
  unfold shednLevel
  split <;> rfl

/-- The end of a received byte: the part acts on it as on a whole byte, and the lines stand but for its drive of ZDA. -/
theorem byteEnds_of_received {s : State} (h : s.sending = false) :
    s.byteEnds =
      let t := if s.zbi.lines.addressing then s.clocked.address (byteOfBits s.zbi.lines.bits)
        else s.clocked.receiveByte (byteOfBits s.zbi.lines.bits)
      t.setLines { s.zbi.lines with pullsZda := t.zbi.acked } := by simp [byteEnds, h]

/-- The answer to an address byte does not look at the lines, and leaves them. -/
theorem setLines_address (s : State) (l : BusLines) (b : Byte) : (s.setLines l).address b = (s.address b).setLines l := by
  unfold address
  cases ht : s.zbi.transfer <;> cases hp : s.fsc.part <;> simp only [setLines_zbi, setLines_fsc, ht, hp] <;>
    (repeat' split) <;> rfl

/-- A whole address byte outside EXECUTING: the answer to it, with the lines after whole bytes and the next bit on ZDA. -/
theorem addressWhole_eq {s : State} (h : s.zbi.transfer ≠ .executing) (b : Byte) :
    s.addressWhole b = ((s.address b).setLines { s.zbi.lines.clocked with inTransfer := true }).driveNext := by
  rw [← setLines_address]
  unfold addressWhole
  split <;> simp_all

/-- Bytes of a reply read as one event in REPLYING. -/
theorem readWhole_eq {s : State} (h : s.zbi.transfer = .replying) {n : Nat} (hn : 0 < n) (ackLast : Bool) :
    s.readWhole n ackLast = (s.clocked.readReply n ackLast).driveNext := by
  simp only [readWhole, h]
  rw [if_neg (by omega)]

/-- A STOP given as one event outside EXECUTING. -/
theorem stopWhole_eq {s : State} (h : s.zbi.transfer ≠ .executing) : s.stopWhole = s.clocked.endOrRestart := by
  unfold stopWhole stopCondition
  cases ht : s.zbi.transfer <;> first | exact absurd ht h | simp [ht]

/-- The eight bits of a byte, the most significant first, spell it (R159). -/
@[simp] theorem byteOfBits_of_byte (b : Byte) : byteOfBits ((List.range 8).map fun i => b.getLsbD (7 - i)) = b := by
  revert b; decide +kernel

/-- New levels with ZCL high before and low after are a fall of ZCL (R159). -/
theorem linesChange_of_fall {s : State} (h : s.zbi.lines.zcl = true) (hh : s.zbi.lines.hold = none) (zda : Bool) :
    s.linesChange false zda = (s.driven false zda).clockFalls := by
  simp [linesChange, followLines, BusLines.change, BusLines.clock, h, hh]

/-- New levels with ZCL low before and high after are a rise of ZCL (R159). -/
theorem linesChange_of_rise {s : State} (h : s.zbi.lines.zcl = false) (hh : s.zbi.lines.hold = none) (zda : Bool) :
    s.linesChange true zda = (s.driven true zda).clockRises := by
  simp [linesChange, followLines, BusLines.change, BusLines.clock, h, hh]

/-- While the part holds ZCL low nothing that the other parties drive is a change (R163). -/
theorem linesChange_of_hold {s : State} (hh : s.zbi.lines.hold.isSome = true) (zcl zda : Bool) :
    s.linesChange zcl zda = s.driven zcl zda := by
  obtain ⟨n, hn⟩ := Option.isSome_iff_exists.mp hh
  simp [linesChange, followLines, BusLines.change, BusLines.clock, hn]

/-- With ZCL high throughout, a fall of ZDA is a START or repeated START (R159). -/
theorem linesChange_of_start {s : State} (hc : s.zbi.lines.zcl = true) (hh : s.zbi.lines.hold = none)
    (hd : s.zbi.lines.zda = true) (hp : s.zbi.lines.pullsZda = false) :
    s.linesChange true false = (s.driven true false).startCondition := by
  cases h : s.zbi.lines.inTransfer <;>
    simp [linesChange, followLines, BusLines.change, BusLines.clock, BusLines.data, hc, hh, hd, hp, h]

/-- With ZCL high throughout, a rise of ZDA is a STOP (R159). -/
theorem linesChange_of_stop {s : State} (hc : s.zbi.lines.zcl = true) (hh : s.zbi.lines.hold = none)
    (hd : s.zbi.lines.zda = false) (hp : s.zbi.lines.pullsZda = false) :
    s.linesChange true true = (s.driven true true).stopCondition := by
  simp [linesChange, followLines, BusLines.change, BusLines.clock, BusLines.data, hc, hh, hd, hp]

/-- A fall of ZCL within a byte drives its next bit. -/
theorem clockFalls_within {s : State} (h : s.zbi.lines.bits.length < 8) :
    s.clockFalls = s.setLines { s.zbi.lines with low := some 0, pullsZda := s.pullsForBit } := by
  show (if s.zbi.lines.bits.length < 8 then _ else _) = _
  rw [if_pos h]
  rfl

/-- A fall of ZCL after the eighth bit ends the byte. -/
theorem clockFalls_eighth {s : State} (h : s.zbi.lines.bits.length = 8) :
    s.clockFalls = (s.setLines { s.zbi.lines with low := some 0 }).byteEnds := by
  simp [clockFalls, h]

/-- A fall of ZCL after the ninth bit ends the acknowledge bit. -/
theorem clockFalls_ninth {s : State} (h : s.zbi.lines.bits.length = 9) :
    s.clockFalls = (s.setLines { s.zbi.lines with low := some 0 }).ackEnds := by
  simp [clockFalls, h]

/-! ## EXECUTING -/

/-- EXECUTING is left at once by a state that is not in it. -/
theorem leaveExecuting_of_ne {s : State} (h : s.zbi.transfer ≠ .executing) : s.leaveExecuting = s := by
  unfold leaveExecuting
  split
  · contradiction
  all_goals rfl

/-- The ZBI in REPLY_READY with a reply. -/
def holdReply (s : State) (status : Status) (data : List Byte) : State :=
  s.setZbi { s.zbi with transfer := .replyReady, reply := some (composeReply s.zbi.own status data) }

/-- The ZBI in NOT_ADDRESSED without a reply. -/
def endFloorCall (s : State) : State := s.setZbi { s.zbi with transfer := .notAddressed, reply := none }

@[simp] theorem composeAnswer_leaveExecuting (s : State) (status : Status) (data : List Byte) :
    (s.composeAnswer status data).leaveExecuting = s.holdReply status data := rfl

@[simp] theorem answerFloorCall_leaveExecuting (s : State) : s.answerFloorCall.leaveExecuting = s.endFloorCall := rfl

/-- A request taken on the own address is answered in REPLY_READY. -/
theorem takeRequest_own {s : State} (h : s.zbi.address ≠ some Config.floorCall) (floorOk : Bool) (answer : State → Answer) :
    (s.takeRequest floorOk answer).leaveExecuting =
      (answer s.enterExecuting).state.holdReply (answer s.enterExecuting).status (answer s.enterExecuting).data := by
  simp [takeRequest, h]

/-- A request taken on the floor call is carried out where it is marked there, and gets no reply. -/
theorem takeRequest_floor {s : State} (h : s.zbi.address = some Config.floorCall) (floorOk : Bool) (answer : State → Answer) :
    (s.takeRequest floorOk answer).leaveExecuting =
      (if floorOk then (answer s.enterExecuting).state else s.enterExecuting).endFloorCall := by simp [takeRequest, h]

/-- A taken request leaves the ZBI in EXECUTING. -/
@[simp] theorem takeCode_transfer (s : State) (code source : Byte) (p : List Byte) :
    (s.takeCode code source p).zbi.transfer = .executing := by
  unfold takeCode takeRequest
  split <;> split <;> rfl

/-- The end of EXECUTING changes the ZBI's state and nothing else. -/
theorem leaveExecuting_enter {s : State} (h : s.zbi.transfer = .executing) (l : BusLines) :
    s.setLines l = s.leaveExecuting.setZbi { s.leaveExecuting.zbi with transfer := .executing, lines := l } := by
  simp only [leaveExecuting, h]
  rcases s with ⟨_, _, _, _, _, _, _, _, _, ⟨⟩, _⟩
  cases h
  rfl

/-! ## One byte of a request -/

/-- The source, code and length bytes, where the last is at most 64, and every payload byte are acknowledged and kept (R162). -/
theorem receiveByte_kept {s : State} (hr : s.zbi.transfer = .receiving) {bytes : List Byte} (b : Byte)
    (hq : s.zbi.request = some bytes)
    (hl : ∀ address source code length rest, bytes ++ [b] = address :: source :: code :: length :: rest →
      length.toNat ≤ 64 ∧ rest.length ≤ length.toNat) : s.receiveByte b = s.keepByte (bytes ++ [b]) := by
  unfold receiveByte
  simp only [hr, hq, Option.getD_some]
  split
  · next address source code length rest h =>
    obtain ⟨h1, h2⟩ := hl _ _ _ _ _ h
    rw [if_neg (by simpa [Config.maxPayload] using h1), if_pos h2]
  · rfl

/-- A length byte above 64 discards the request (R162). -/
theorem receiveByte_tooLong {s : State} (hr : s.zbi.transfer = .receiving) {address source code : Byte} {length : Byte}
    (hq : s.zbi.request = some [address, source, code]) (hl : 64 < length.toNat) :
    s.receiveByte length = s.discardRequest := by
  unfold receiveByte
  simp [hr, hq, Config.maxPayload, hl]

/-- The check byte takes a request that is sound, and discards one that is not (R162, R163). -/
theorem receiveByte_check {s : State} (hr : s.zbi.transfer = .receiving) {address source code length check : Byte} {p : List Byte}
    (hq : s.zbi.request = some (address :: source :: code :: length :: p)) (hl : length.toNat ≤ 64) (hp : p.length = length.toNat) :
    s.receiveByte check =
      if byteSum (address :: source :: code :: length :: (p ++ [check])) = 0 then s.takeCode code source p
      else s.discardRequest := by
  unfold receiveByte
  have h1 : ¬ 64 < length.toNat := by omega
  have h2 : ¬ (p ++ [check]).length ≤ length.toNat := by simp [hp]
  have h3 : (p ++ [check]).take length.toNat = p := by rw [← hp]; simp
  simp only [hr, hq, Option.getD_some, List.cons_append, Config.maxPayload, h1, h2, h3, if_false]

/-! ## Whole requests -/

/-- Bytes written one after another, in two runs. -/
theorem bytesWritten_append (s : State) (l m : List Byte) : s.bytesWritten (l ++ m) = (s.bytesWritten l).bytesWritten m :=
  List.foldl_append

@[simp] theorem bytesWritten_nil (s : State) : s.bytesWritten [] = s := rfl

@[simp] theorem bytesWritten_cons (s : State) (b : Byte) (l : List Byte) :
    s.bytesWritten (b :: l) = (s.byteWritten b).bytesWritten l := rfl

/-- Where the part does not hold the clock and does not send, a whole byte is received, and EXECUTING left again. -/
theorem byteWritten_eq {s : State} (h : s.zbi.transfer ≠ .executing) (h' : s.zbi.transfer ≠ .replying) (b : Byte) :
    s.byteWritten b = (s.clocked.receiveByte b).leaveExecuting := by
  unfold byteWritten
  split
  · contradiction
  · contradiction
  all_goals rfl

/-- A byte that is kept is all that a whole byte does. -/
theorem byteWritten_kept {s : State} (hr : s.zbi.transfer = .receiving) {bytes : List Byte} (b : Byte)
    (hq : s.zbi.request = some bytes)
    (hl : ∀ address source code length rest, bytes ++ [b] = address :: source :: code :: length :: rest →
      length.toNat ≤ 64 ∧ rest.length ≤ length.toNat) : s.byteWritten b = s.clocked.keepByte (bytes ++ [b]) := by
  rw [byteWritten_eq (by simp [hr]) (by simp [hr]), receiveByte_kept (s := s.clocked) hr b hq hl,
    leaveExecuting_of_ne (by simp [hr])]

/-- The payload bytes of a request, up to its stated length, are kept one by one (R160, R162). -/
theorem payloadWritten {s : State} (hr : s.zbi.transfer = .receiving) {address source code length : Byte} {old : List Byte}
    (hq : s.zbi.request = some (address :: source :: code :: length :: old)) (hl : length.toNat ≤ 64) (p : List Byte)
    (hp : old.length + p.length ≤ length.toNat) (hne : p ≠ []) :
    s.bytesWritten p = s.clocked.keepByte (address :: source :: code :: length :: (old ++ p)) := by
  induction p generalizing s old with
  | nil => contradiction
  | cons b p ih =>
    have hb : s.byteWritten b = s.clocked.keepByte (address :: source :: code :: length :: (old ++ [b])) :=
      byteWritten_kept hr b hq fun _ _ _ _ _ e => by
        simp only [List.cons_append, List.cons.injEq] at e
        obtain ⟨rfl, rfl, rfl, rfl, rfl⟩ := e
        simp only [List.length_append, List.length_cons, List.length_nil] at hp ⊢
        omega
    rw [bytesWritten_cons, hb]
    rcases eq_or_ne p [] with rfl | hp'
    · rfl
    · rw [ih (s := s.clocked.keepByte _) (old := old ++ [b]) (by simpa using hr) (by simp)
        (by simp only [List.length_append, List.length_cons, List.length_nil] at hp ⊢; omega) hp']
      simp

/-- A request's bytes up to and without its check byte: received and acknowledged one by one (R160, R162). -/
theorem bodyWritten {s : State} (hr : s.zbi.transfer = .receiving) {address : Byte} (hq : s.zbi.request = some [address])
    (source code length : Byte) (hl : length.toNat ≤ 64) (p : List Byte) (hp : p.length ≤ length.toNat) :
    s.bytesWritten (source :: code :: length :: p) = s.clocked.keepByte (address :: source :: code :: length :: p) := by
  have h1 : s.byteWritten source = s.clocked.keepByte [address, source] := byteWritten_kept hr source hq (by simp)
  have h2 : (s.clocked.keepByte [address, source]).byteWritten code = s.clocked.keepByte [address, source, code] :=
    byteWritten_kept (s := s.clocked.keepByte _) hr code rfl (by simp)
  have h3 : (s.clocked.keepByte [address, source, code]).byteWritten length = s.clocked.keepByte [address, source, code, length] :=
    byteWritten_kept (s := s.clocked.keepByte _) hr length rfl fun _ _ _ _ _ e => by
      simp only [List.cons_append, List.nil_append, List.cons.injEq] at e
      obtain ⟨rfl, rfl, rfl, rfl, rfl⟩ := e
      exact ⟨hl, Nat.zero_le _⟩
  rw [bytesWritten_cons, bytesWritten_cons, bytesWritten_cons, h1, h2, h3]
  rcases eq_or_ne p [] with rfl | hne
  · rfl
  · simpa using payloadWritten (s := s.clocked.keepByte _) (old := []) hr rfl hl p (by simpa using hp) hne

/-- A whole request with its check byte: taken where it is sound, else discarded (R162, R163). -/
theorem requestWritten {s : State} (hr : s.zbi.transfer = .receiving) {address : Byte} (hq : s.zbi.request = some [address])
    (source code length check : Byte) (hl : length.toNat ≤ 64) (p : List Byte) (hp : p.length = length.toNat) :
    s.bytesWritten (source :: code :: length :: (p ++ [check])) =
      if byteSum (address :: source :: code :: length :: (p ++ [check])) = 0 then (s.clocked.takeCode code source p).leaveExecuting
      else s.clocked.discardRequest := by
  have h : s.bytesWritten (source :: code :: length :: (p ++ [check])) =
      ((s.clocked.keepByte (address :: source :: code :: length :: p)).receiveByte check).leaveExecuting := by
    rw [← clocked_clocked, ← keepByte_clocked, ← byteWritten_eq (by simp [hr]) (by simp [hr]), ← bodyWritten hr hq source code length hl p (le_of_eq hp)]
    exact bytesWritten_append s (source :: code :: length :: p) [check]
  rw [h, receiveByte_check (s := s.clocked.keepByte _) hr rfl hl hp]
  split
  · simp
  · exact leaveExecuting_of_ne (s := s.clocked.discardRequest) (by simp [discardRequest])

end State

/-- A check byte makes its sum 0. -/
theorem byteSum_checked (l : List Byte) : byteSum (l ++ [checkByte l]) = 0 := by
  simp [byteSum, checkByte, List.foldl_append]

/-- The catalogue names each request by its own code (section 11.2). -/
@[simp] theorem ofCode_code (k : Request) : Request.ofCode k.code = some k := by cases k <;> decide

namespace State

/-- A request row outside reset, its bytes received from the address byte on: its request taken (R162, R163). -/
theorem request_taken {s : State} (h0 : s.fsc.resetHeld = false) (hr : s.zbi.transfer = .receiving) {address : Byte}
    (ha : s.zbi.address = some address) (hq : s.zbi.request = some [address]) (code source : Byte) (p : List Byte)
    (hp : p.length ≤ 64) : request code source p s = .next (s.clocked.takeCode code source p).leaveExecuting := by
  have hn : (BitVec.ofNat 8 p.length).toNat = p.length := by simp; omega
  have := requestWritten hr hq source code (BitVec.ofNat 8 p.length)
    (checkByte (address :: source :: code :: BitVec.ofNat 8 p.length :: p)) (by omega) p hn.symm
  have hs := byteSum_checked (address :: source :: code :: BitVec.ofNat 8 p.length :: p)
  simp only [List.cons_append] at hs
  rw [if_pos hs] at this
  simp only [request, unlessHeld, h0, ha, Option.getD_some, requestBytes, List.cons_append, this]
  rfl

end State

end Sys2Proof.Machine
end

