-- ==== Sys2Proof/Laws/PerInstr.lean ====
section
/-! SUPPORT. A statement for every command, one lemma per constructor: a well-formed command that carries a payload carries at
most 64 bytes (section 9.3). -/

namespace Sys2Proof.Laws.PayloadBound

/-- A well-formed command's payload, where it has one, fits the zone bus. -/
def Statement (i : Instr) : Prop := i.wellFormed = true → ∀ p, i.payload? = some p → p.length ≤ 64

theorem ofNone {i : Instr} (h : i.payload? = none) : Statement i := fun _ p hp => by rw [h] at hp; cases hp

theorem ofLength {i : Instr} {payload : List Byte} (hp : i.payload? = some payload)
    (hw : i.wellFormed = true → decide (payload.length ≤ 64) = true) : Statement i := fun h p e => by
  rw [hp] at e
  cases e
  exact of_decide_eq_true (hw h)

theorem powerOn : Statement (.powerOn) := ofNone rfl

theorem rstnLow : Statement (.rstnLow) := ofNone rfl

theorem rstnRelease : Statement (.rstnRelease) := ofNone rfl

theorem loadComplete : Statement (.loadComplete) := ofNone rfl

theorem shednAsserted : Statement (.shednAsserted) := ofNone rfl

theorem shednReleased : Statement (.shednReleased) := ofNone rfl

theorem addressByte (byte : PinEvent) : Statement (.addressByte byte) := ofNone rfl

theorem requestDiscarded (source code length : Byte) (payload : List Byte) (check : Byte) :
    Statement (.requestDiscarded source code length payload check) := ofNone rfl

theorem stop : Statement (.stop) := ofNone rfl

theorem clockLowTimeout : Statement (.clockLowTimeout) := ofNone rfl

theorem replyRead (bytes : Nat) (ackLast : Bool) : Statement (.replyRead bytes ackLast) := ofNone rfl

theorem setTarget (source : Byte) (payload : List Byte) : Statement (.setTarget source payload) := ofLength rfl fun h => h

theorem setFixed (source : Byte) (payload : List Byte) : Statement (.setFixed source payload) := ofLength rfl fun h => h

theorem setCap (source : Byte) (payload : List Byte) : Statement (.setCap source payload) := ofLength rfl fun h => h

theorem release (source : Byte) (payload : List Byte) : Statement (.release source payload) := ofLength rfl fun h => h

theorem releaseOwn (source : Byte) (payload : List Byte) : Statement (.releaseOwn source payload) := ofLength rfl fun h => h

theorem releaseSlot (source : Byte) (payload : List Byte) : Statement (.releaseSlot source payload) := ofLength rfl fun h => h

theorem blindStep (source : Byte) (payload : List Byte) : Statement (.blindStep source payload) := ofLength rfl fun h => h

theorem readCells (source : Byte) (payload : List Byte) : Statement (.readCells source payload) := ofLength rfl fun h => h

theorem readSections (source : Byte) (payload : List Byte) : Statement (.readSections source payload) := ofLength rfl fun h => h

theorem readRequests (source : Byte) (payload : List Byte) : Statement (.readRequests source payload) := ofLength rfl fun h => h

theorem readStatus (source : Byte) (payload : List Byte) : Statement (.readStatus source payload) := ofLength rfl fun h => h

theorem readSensors (source : Byte) (payload : List Byte) : Statement (.readSensors source payload) := ofLength rfl fun h => h

theorem clearShortfall (source : Byte) (payload : List Byte) : Statement (.clearShortfall source payload) := ofLength rfl fun h => h

theorem writeCellField (source : Byte) (payload : List Byte) : Statement (.writeCellField source payload) := ofLength rfl fun h => h

theorem writeRow (source : Byte) (payload : List Byte) : Statement (.writeRow source payload) := ofLength rfl fun h => h

theorem calApply (source : Byte) (payload : List Byte) : Statement (.calApply source payload) := ofLength rfl fun h => h

theorem writeMasterSlot (source : Byte) (payload : List Byte) : Statement (.writeMasterSlot source payload) := ofLength rfl fun h => h

theorem writeBlindTable (source : Byte) (payload : List Byte) : Statement (.writeBlindTable source payload) := ofLength rfl fun h => h

theorem writeProfile (source : Byte) (payload : List Byte) : Statement (.writeProfile source payload) := ofLength rfl fun h => h

theorem writeSensor (source : Byte) (payload : List Byte) : Statement (.writeSensor source payload) := ofLength rfl fun h => h

theorem writeLinks (source : Byte) (payload : List Byte) : Statement (.writeLinks source payload) := ofLength rfl fun h => h

theorem writePart (source : Byte) (payload : List Byte) : Statement (.writePart source payload) := ofLength rfl fun h => h

theorem saveSettings (source : Byte) (payload : List Byte) : Statement (.saveSettings source payload) := ofLength rfl fun h => h

theorem saveComplete : Statement (.saveComplete) := ofNone rfl

theorem restart (source : Byte) (payload : List Byte) : Statement (.restart source payload) := ofLength rfl fun h => h

theorem night (source : Byte) (payload : List Byte) : Statement (.night source payload) := ofLength rfl fun h => h

theorem day (source : Byte) (payload : List Byte) : Statement (.day source payload) := ofLength rfl fun h => h

theorem shed (source : Byte) (payload : List Byte) : Statement (.shed source payload) := ofLength rfl fun h => h

theorem shedClear (source : Byte) (payload : List Byte) : Statement (.shedClear source payload) := ofLength rfl fun h => h

theorem pollTimer (link : Fin 4) (event : PollEvent) : Statement (.pollTimer link event) := ofNone rfl

theorem sensorReply (link : Fin 4) (valueHigh valueLow check : RxChar) :
    Statement (.sensorReply link valueHigh valueLow check) := ofNone rfl

theorem noReply (link : Fin 4) : Statement (.noReply link) := ofNone rfl

theorem healthTimeout (sensor : Fin 16) : Statement (.healthTimeout sensor) := ofNone rfl

theorem dleOneSecondTimer : Statement (.dleOneSecondTimer) := ofNone rfl

theorem rluOneSecondTimer : Statement (.rluOneSecondTimer) := ofNone rfl

theorem freezeTimerExpiry (row : Fin 8) : Statement (.freezeTimerExpiry row) := ofNone rfl

theorem fadeEvent : Statement (.fadeEvent) := ofNone rfl

theorem initGroupComplete : Statement (.initGroupComplete) := ofNone rfl

theorem burstComplete : Statement (.burstComplete) := ofNone rfl

theorem allTouchComplete : Statement (.allTouchComplete) := ofNone rfl

theorem shedFrameComplete : Statement (.shedFrameComplete) := ofNone rfl

theorem cutFrameComplete : Statement (.cutFrameComplete) := ofNone rfl

theorem rowDue (row : Fin 8) : Statement (.rowDue row) := ofNone rfl

theorem reInitTimer : Statement (.reInitTimer) := ofNone rfl

theorem requestWithUnknownCode (code source : Byte) (payload : List Byte) :
    Statement (.requestWithUnknownCode code source payload) :=
  ofLength rfl fun h => (Bool.and_eq_true_iff.mp h).1

end Sys2Proof.Laws.PayloadBound
end

