-- ==== Sys2Proof/Laws/Table.lean ====
section
/-! SUPPORT. The laws of `Table`: reading after building, mapping, filling and writing, and equality from equal records. -/

namespace Sys2Proof.Table

variable {α β : Type} {d n : Nat}

theorem blt_of_lt {i k : Nat} (h : i < k) : Nat.blt i k = true := by simpa [Nat.blt, Nat.ble_eq] using h

theorem blt_of_ge {i k : Nat} (h : k ≤ i) : Nat.blt i k = false := by
  rw [Bool.eq_false_iff]; simpa [Nat.blt, Nat.ble_eq] using h

theorem lt_of_blt {i k : Nat} (h : Nat.blt i k = true) : i < k := by simpa [Nat.blt, Nat.ble_eq] using h

theorem ge_of_blt {i k : Nat} (h : Nat.blt i k = false) : k ≤ i := by
  by_contra hc; rw [blt_of_lt (by omega)] at h; cases h

theorem getNat_build (f : Nat → α) (d base i : Nat) (h : i < 2 ^ d) : (build f d base).getNat i = f (base + i) := by
  induction d generalizing base i with
  | zero => obtain rfl : i = 0 := by omega
            rfl
  | succ d ih =>
    rw [pow_succ] at h
    simp only [build, getNat]
    by_cases hi : i < 2 ^ d
    · rw [blt_of_lt hi, cond_true, ih _ _ hi]
    · rw [blt_of_ge (by omega), cond_false, ih _ _ (by omega)]
      congr 1
      omega

theorem getNat_setNat_self (t : Table α d) (i : Nat) (a : α) : (t.setNat i a).getNat i = a := by
  induction t generalizing i with
  | leaf b => rfl
  | node lo hi ihl ihr =>
    simp only [setNat]
    cases h : Nat.blt i _ <;> simp [getNat, h, ihl, ihr]

theorem getNat_setNat_ne (t : Table α d) (i j : Nat) (a : α) (hi : i < 2 ^ d) (hj : j < 2 ^ d) (h : i ≠ j) :
    (t.setNat i a).getNat j = t.getNat j := by
  induction t generalizing i j with
  | leaf b => simp at hi hj; omega
  | @node d lo hi' ihl ihr =>
    rw [pow_succ] at hi hj
    simp only [setNat]
    cases h1 : Nat.blt i (2 ^ d) <;> cases h2 : Nat.blt j (2 ^ d) <;> simp only [cond_true, cond_false, getNat, h2]
    · have h1 := ge_of_blt h1
      have h2 := ge_of_blt h2
      exact ihr _ _ (by omega) (by omega) (by omega)
    · exact ihl _ _ (lt_of_blt h1) (lt_of_blt h2) h

/-- Reading a built table gives the function's value, for every index of a table that is full (`n = 2 ^ d`). -/
@[simp] theorem get_ofFn [NeZero n] (f : Fin n → α) (i : Fin n) (h : n = 2 ^ d) :
    (ofFn f : Table α d).get i = f i := by
  rw [ofFn, get, getNat_build _ _ _ _ (h ▸ i.isLt)]
  congr 1
  exact Fin.ext (by simp [Fin.ofNat, Nat.mod_eq_of_lt i.isLt])

@[simp] theorem get_set_self (t : Table α d) (i : Fin n) (a : α) : (t.set i a).get i = a :=
  getNat_setNat_self t i.val a

theorem get_set_ne (t : Table α d) {i j : Fin n} (a : α) (h : i ≠ j) (hn : n = 2 ^ d) :
    (t.set i a).get j = t.get j :=
  getNat_setNat_ne t _ _ a (hn ▸ i.isLt) (hn ▸ j.isLt) fun hv => h (Fin.ext hv)

/-- A write seen from any index. -/
@[simp] theorem get_set (t : Table α d) (i j : Fin n) (a : α) (hn : n = 2 ^ d) :
    (t.set i a).get j = if i = j then a else t.get j := by
  by_cases h : i = j
  · subst h; simp
  · rw [get_set_ne t a h hn, if_neg h]

theorem getNat_map (f : α → β) (t : Table α d) (i : Nat) : (t.map f).getNat i = f (t.getNat i) := by
  induction t generalizing i with
  | leaf b => rfl
  | node lo hi ihl ihr => simp only [map, getNat]; cases Nat.blt i _ <;> simp [ihl, ihr]

@[simp] theorem get_map (f : α → β) (t : Table α d) (i : Fin n) : (t.map f).get i = f (t.get i) :=
  getNat_map f t i.val

theorem getNat_const (a : α) (d i : Nat) : (const a d).getNat i = a := by
  induction d generalizing i with
  | zero => rfl
  | succ d ih => simp only [const, getNat]; cases Nat.blt i _ <;> simp [ih]

@[simp] theorem get_const (a : α) (i : Fin n) : (const a d).get i = a := getNat_const a d i.val

theorem eq_of_getNat (t u : Table α d) (h : ∀ i, i < 2 ^ d → t.getNat i = u.getNat i) : t = u := by
  induction t with
  | leaf a => cases u with | leaf b => simpa [getNat] using h 0 (by simp)
  | @node d lo hi ihl ihr =>
    cases u with
    | node lo' hi' =>
      have hp : 2 ^ (d + 1) = 2 ^ d + 2 ^ d := by rw [pow_succ]; omega
      rw [ihl lo' fun i hi => ?_, ihr hi' fun i hi => ?_]
      · have := h (i + 2 ^ d) (by omega)
        simpa [getNat, blt_of_ge (Nat.le_add_left (2 ^ d) i)] using this
      · have := h i (by omega)
        simpa [getNat, blt_of_lt hi] using this

/-- Two full tables with the same records are the same table. -/
theorem ext_get (hn : n = 2 ^ d) {t u : Table α d} (h : ∀ i : Fin n, t.get i = u.get i) : t = u :=
  eq_of_getNat t u fun i hi => h ⟨i, hn ▸ hi⟩

@[simp] theorem length_toList (t : Table α d) : t.toList.length = 2 ^ d := by
  induction t with
  | leaf a => rfl
  | node lo hi ihl ihr => simp [toList, ihl, ihr, pow_succ]; omega

end Sys2Proof.Table
end

