-- ==== Sys2Proof/Laws/Taken.lean ====
section
/-! SUPPORT. What one request row answers: on the own address the owner's state with its reply held, a refusal of the ZBI's three
checks in order, or a discard; on the floor call the owner's state in silence. And the frames of the acceptance of an entry. -/

namespace Sys2Proof.Machine

namespace State

/-! ## Frames -/

theorem keepsBut_refl (s : State) (l : List Block) : s.keepsBut l s := fun b _ => by cases b <;> rfl

/-- A frame from the equalities of the blocks it leaves. -/
theorem keepsBut_intro {s t : State} {l : List Block} (h : ∀ b, b ∉ l → s.same t b) : s.keepsBut l t := h

theorem keepsBut_trans {s t u : State} {l : List Block} (h : s.keepsBut l t) (k : t.keepsBut l u) : s.keepsBut l u := fun b hb => by
  have h1 := h b hb
  have h2 := k b hb
  cases b <;> exact h2.trans h1

/-! ## The sender -/

/-- The slot found for a source byte is not EMPTY and holds that address. -/
theorem senderSlot_spec {s : State} {source : Byte} {n : Fin 8} (h : s.senderSlot source = some n) :
    (s.zbi.slots.get n).role ≠ .empty ∧ (s.zbi.slots.get n).address = source := by
  have := List.find?_some h
  simpa using this

/-- No slot is found exactly when no slot that is not EMPTY holds the address. -/
theorem senderSlot_eq_none {s : State} {source : Byte} :
    s.senderSlot source = none ↔
      ∀ n : Fin 8, (s.zbi.slots.get n).role ≠ .empty → (s.zbi.slots.get n).address ≠ source := by
  simp [senderSlot, List.find?_eq_none]

/-- With distinct addresses the slot that holds the source byte is the one found. -/
theorem senderSlot_eq_some {s : State} (m : s.Masters) {source : Byte} {n : Fin 8} (hn : (s.zbi.slots.get n).role ≠ .empty)
    (ha : (s.zbi.slots.get n).address = source) : s.senderSlot source = some n := by
  cases h : s.senderSlot source with
  | none => exact absurd ha (senderSlot_eq_none.mp h n hn)
  | some k =>
    obtain ⟨hk, hka⟩ := senderSlot_spec h
    by_contra hne
    exact m.distinct k n (fun e => hne (by rw [e])) hk hn (hka.trans ha.symm)

/-- The lookup reads the master table and nothing else. -/
theorem senderSlot_congr {s t : State} (h : t.zbi.slots = s.zbi.slots) (source : Byte) :
    t.senderSlot source = s.senderSlot source := by simp [senderSlot, h]

@[simp] theorem clocked_senderSlot (s : State) (source : Byte) : s.clocked.senderSlot source = s.senderSlot source := rfl

@[simp] theorem enterExecuting_senderSlot (s : State) (source : Byte) :
    s.enterExecuting.senderSlot source = s.senderSlot source := rfl

/-! ## Judging -/

/-- The four outcomes of the ZBI's judgement, in order (R163). -/
theorem judge_eq (s : State) (k : Request) (owner : Fin 8 → List Byte → State → Answer) (source : Byte) (p : List Byte) :
    s.judge k owner source p =
      match s.senderSlot source with
      | none => .refuse s .refusedSource
      | some n =>
        if k.admits p = false then .refuse s .refusedFormat
        else if k.permits (s.zbi.slots.get n).role = false then .refuse s .refusedClass
        else owner n p s := by
  unfold judge
  cases s.senderSlot source with
  | none => rfl
  | some n => cases k.admits p <;> cases k.permits (s.zbi.slots.get n).role <;> simp

/-- The lines after whole bytes, as the statements spell them. -/
@[simp] theorem clocked_afterBytes (l : BusLines) : l.clocked = afterBytes l := rfl

/-- The ZBI after a taken request: what `holdReply` leaves when the owner has not touched the ZBI. -/
theorem holdReply_zbi_of {s t : State} (h : t.zbi = s.clocked.enterExecuting.zbi) (status : Status) (data : List Byte) :
    (t.holdReply status data).zbi = repliedWith s.zbi status data := by
  simp [holdReply, h, enterExecuting, repliedWith]

/-- A refusal on the own address changes nothing but the ZBI. -/
theorem refused_eq (s : State) (status : Status) :
    s.clocked.enterExecuting.holdReply status [] = s.setZbi (repliedWith s.zbi status []) := rfl

/-! ## Whole rows -/

/-- A request that a check of the ZBI refuses, or its owner, on the own address: the judgement, with its reply held. -/
theorem request_eq_of_receiving {s : State} {source : Byte} {p : List Byte} (hr : s.fsc.resetHeld = false)
    (ht : s.zbi.transfer = .receiving) (ha : s.zbi.address = some (writeAddress s.zbi.own))
    (hq : s.zbi.request = some [writeAddress s.zbi.own]) (hn : writeAddress s.zbi.own ≠ Config.floorCall)
    (hf : p.length ≤ Config.maxPayload) (k : Request) :
    request k.code source p s =
      .next ((s.clocked.enterExecuting.judge k (ownerOf k) source p).state.holdReply
        (s.clocked.enterExecuting.judge k (ownerOf k) source p).status (s.clocked.enterExecuting.judge k (ownerOf k) source p).data) := by
  rw [request_taken hr ht ha hq k.code source p hf]
  simp only [takeCode, ofCode_code]
  rw [takeRequest_own (by rw [clocked_zbi, ha]; simpa using hn)]

/-- A request with a code that the catalogue does not name: the source check, and then REFUSED_FORMAT (R163). -/
theorem request_eq_of_unknown {s : State} {code source : Byte} {p : List Byte} (hr : s.fsc.resetHeld = false)
    (ht : s.zbi.transfer = .receiving) (ha : s.zbi.address = some (writeAddress s.zbi.own))
    (hq : s.zbi.request = some [writeAddress s.zbi.own]) (hn : writeAddress s.zbi.own ≠ Config.floorCall)
    (hf : p.length ≤ Config.maxPayload) (hc : Request.ofCode code = none) :
    request code source p s =
      .next (s.setZbi (repliedWith s.zbi (if (s.senderSlot source).isSome then .refusedFormat else .refusedSource) [])) := by
  rw [request_taken hr ht ha hq code source p hf]
  simp only [takeCode, hc]
  rw [takeRequest_own (by rw [clocked_zbi, ha]; simpa using hn)]
  cases h : s.senderSlot source <;> simp [h, Answer.refuse, refused_eq]

/-- A request taken on the own address: the owner's answer, with its reply held. -/
theorem Takes.request_eq {s : State} {k : Request} {source : Byte} {p : List Byte} {n : Fin 8} (h : s.Takes k source p n) :
    request k.code source p s =
      .next ((ownerOf k n p s.clocked.enterExecuting).state.holdReply (ownerOf k n p s.clocked.enterExecuting).status
        (ownerOf k n p s.clocked.enterExecuting).data) := by
  rw [request_eq_of_receiving h.running h.receiving h.address h.begun h.notFloor h.fits]
  simp [judge_eq, h.sender, h.format, show k.permits (s.clocked.enterExecuting.zbi.slots.get n).role = true from h.klass]

/-- A request taken on the floor call: the owner's state, NOT_ADDRESSED, and no reply (R167). -/
theorem TakesOnFloor.request_eq {s : State} {k : Request} {source : Byte} {p : List Byte} {n : Fin 8}
    (h : s.TakesOnFloor k source p n) :
    request k.code source p s = .next (ownerOf k n p s.clocked.enterExecuting).state.endFloorCall := by
  rw [request_taken h.running h.receiving h.address h.begun k.code source p h.fits]
  simp only [takeCode, ofCode_code]
  rw [takeRequest_floor (s := s.clocked) h.address, if_pos h.marked]
  simp [judge_eq, h.sender, h.format, show k.permits (s.clocked.enterExecuting.zbi.slots.get n).role = true from h.klass]

/-- A request on the floor call that the catalogue does not mark there is discarded in silence (R167). -/
theorem request_eq_of_unmarked {s : State} {source : Byte} {p : List Byte} (hr : s.fsc.resetHeld = false)
    (ht : s.zbi.transfer = .receiving) (ha : s.zbi.address = some Config.floorCall)
    (hq : s.zbi.request = some [Config.floorCall]) (hf : p.length ≤ Config.maxPayload) (k : Request)
    (hk : k.onFloor p = false) : request k.code source p s = .next (s.setZbi (floorDone s.zbi)) := by
  rw [request_taken hr ht ha hq k.code source p hf]
  simp only [takeCode, ofCode_code]
  rw [takeRequest_floor (s := s.clocked) ha, hk]
  rfl

/-- A read's row: nothing but the ZBI changes when the owner answers with the state it was given. -/
theorem Takes.request_eq_of_kept {s : State} {k : Request} {source : Byte} {p : List Byte} {n : Fin 8}
    (h : s.Takes k source p n) (hk : (ownerOf k n p s.clocked.enterExecuting).state = s.clocked.enterExecuting) :
    request k.code source p s =
      .next (s.setZbi (repliedWith s.zbi (ownerOf k n p s.clocked.enterExecuting).status (ownerOf k n p s.clocked.enterExecuting).data)) := by
  rw [h.request_eq, hk]; rfl

/-- While RSTn holds the part in reset an event changes nothing (R144). -/
theorem unlessHeld_held {s : State} (h : s.fsc.resetHeld = true) (f : State → State) : unlessHeld f s = .next s := by
  simp [unlessHeld, h]

/-- An event of a part not held in reset has its effect. -/
theorem unlessHeld_free {s : State} (h : s.fsc.resetHeld = false) (f : State → State) : unlessHeld f s = .next (f s) := by
  simp [unlessHeld, h]

end State

/-! ## The acceptance of an entry -/

theorem acceptEntry_rlu (s : State) (e : Entry) (a : Acceptance) :
    (acceptEntry s e a).rlu = (s.setList (acceptInto s.rlu.list e a) (e.selector :: (a.leaver.map Entry.selector).toList)).rlu := by
  unfold acceptEntry; simp only; split <;> simp
@[simp] theorem acceptEntry_ct (s : State) (e : Entry) (a : Acceptance) : (acceptEntry s e a).ct = s.ct := by
  unfold acceptEntry; simp only; split <;> simp
@[simp] theorem acceptEntry_dle (s : State) (e : Entry) (a : Acceptance) : (acceptEntry s e a).dle = s.dle := by
  unfold acceptEntry; simp only; split <;> simp
@[simp] theorem acceptEntry_lau (s : State) (e : Entry) (a : Acceptance) : (acceptEntry s e a).lau = s.lau := by
  unfold acceptEntry; simp only; split <;> simp
@[simp] theorem acceptEntry_fdu (s : State) (e : Entry) (a : Acceptance) : (acceptEntry s e a).fdu = s.fdu := by
  unfold acceptEntry; simp only; split <;> simp
@[simp] theorem acceptEntry_llc (s : State) (e : Entry) (a : Acceptance) : (acceptEntry s e a).llc = s.llc := by
  unfold acceptEntry; simp only; split <;> simp
@[simp] theorem acceptEntry_sst (s : State) (e : Entry) (a : Acceptance) : (acceptEntry s e a).sst = s.sst := by
  unfold acceptEntry; simp only; split <;> simp
@[simp] theorem acceptEntry_zbi (s : State) (e : Entry) (a : Acceptance) : (acceptEntry s e a).zbi = s.zbi := by
  unfold acceptEntry; simp only; split <;> simp
@[simp] theorem acceptEntry_pending (s : State) (e : Entry) (a : Acceptance) : (acceptEntry s e a).pending = s.pending := by
  unfold acceptEntry; simp only; split <;> simp

end Sys2Proof.Machine
end

