-- ==== Sys2Proof/Laws/Specs.lean ====
section
/-! SUPPORT. What the shared operations do, said once each: the records they write, read one at a time, and the cases of a frame
selection. Later proofs cite these and do not unfold the operations. -/

namespace Sys2Proof.Machine

/-! ## The grid -/

@[simp] theorem rowOf_cellAt (r : Fin 8) (b : Fin 32) : rowOf (cellAt r b) = r := Fin.ext (by simp only [rowOf, cellAt]; omega)

@[simp] theorem bayOf_cellAt (r : Fin 8) (b : Fin 32) : bayOf (cellAt r b) = b := Fin.ext (by simp only [bayOf, cellAt]; omega)

@[simp] theorem cellAt_rowOf_bayOf (c : Fin 256) : cellAt (rowOf c) (bayOf c) = c :=
  Fin.ext (by simp only [rowOf, bayOf, cellAt]; omega)

theorem CellTable.configured_iff (t : CellTable) (r : Fin 8) :
    t.configured r = true ↔ ∃ b : Fin 32, t.present (cellAt r b) = true := by
  simp [CellTable.configured, allBays]

theorem CellTable.vacant_iff (t : CellTable) (sel : Selector) : t.vacant sel = true ↔ ∀ c : Fin 256, t.covers sel c = false := by
  simp [CellTable.vacant, allCells]

/-- An absent cell is covered by no selector (R8). -/
theorem CellTable.covers_absent {t : CellTable} {c : Fin 256} (h : t.present c = false) (sel : Selector) :
    t.covers sel c = false := by simp [CellTable.covers, h]

namespace State

/-! ## The request list -/

@[simp] theorem setList_list (s : State) (l : List Entry) (sels : List Selector) : (s.setList l sels).rlu.list = l := rfl

@[simp] theorem setList_timer (s : State) (l : List Entry) (sels : List Selector) : (s.setList l sels).rlu.timer = s.rlu.timer := rfl

@[simp] theorem setList_resolved (s : State) (l : List Entry) (sels : List Selector) (c : Fin 256) :
    (s.setList l sels).rlu.resolved.get c =
      if sels.any fun sel => s.ct.covers sel c then resolve s.ct l c else s.rlu.resolved.get c := by
  simp [setList]

@[simp] theorem regrid_list (s : State) :
    s.regrid.rlu.list = s.rlu.list.map fun e => { e with coverage := s.ct.coverage e.selector } := rfl

@[simp] theorem regrid_timer (s : State) : s.regrid.rlu.timer = s.rlu.timer := rfl

@[simp] theorem regrid_resolved (s : State) (c : Fin 256) :
    s.regrid.rlu.resolved.get c = resolve s.ct s.regrid.rlu.list c := by
  simp [regrid]

/-- Each expiry of the list's timer, entry by entry (R75). -/
theorem countDown_eq (e : Entry) :
    e.countDown = match e.hold with
      | none => some e
      | some h => if h ≤ 1 then none else some { e with hold := some (h - 1) } := rfl

/-! ## Rows -/

@[simp] theorem freezeRow_rows (s : State) (r x : Fin 8) :
    (s.freezeRow r).ct.rows.get x =
      if r = x then { s.ct.rows.get r with freeze := .frozen Timing.freeze } else s.ct.rows.get x := by
  unfold freezeRow; simp only; split <;> simp

@[simp] theorem freezeRow_cells (s : State) (r : Fin 8) : (s.freezeRow r).ct.cells = s.ct.cells := by
  unfold freezeRow; simp only; split <;> simp

/-- A LIVE row's freeze captures its present cells' base levels, a FROZEN row's captures nothing (R17, R19). -/
theorem freezeRow_held (s : State) (r : Fin 8) (c : Fin 256) :
    (s.freezeRow r).ct.held.get c =
      if s.ct.rowFrozen r = false ∧ rowOf c = r ∧ s.ct.present c = true then
        some (((s.lau.cells.get c).lastBase).getD (s.ct.cells.get c).floor)
      else s.ct.held.get c := by
  unfold freezeRow
  cases h : s.ct.rowFrozen r <;> simp

@[simp] theorem unfreezeRows_cells (s : State) (p : Fin 8 → Bool) : (s.unfreezeRows p).ct.cells = s.ct.cells := rfl

@[simp] theorem unfreezeRows_rows (s : State) (p : Fin 8 → Bool) (r : Fin 8) :
    (s.unfreezeRows p).ct.rows.get r =
      if (s.ct.rowFrozen r && p r) = true then { s.ct.rows.get r with freeze := .live } else s.ct.rows.get r := by
  simp [unfreezeRows]

@[simp] theorem unfreezeRows_held (s : State) (p : Fin 8 → Bool) (c : Fin 256) :
    (s.unfreezeRows p).ct.held.get c = if (s.ct.rowFrozen (rowOf c) && p (rowOf c)) = true then none else s.ct.held.get c := by
  simp [unfreezeRows]

/-! ## Levels -/

@[simp] theorem clampFades_levels (s : State) (p : Fin 8 → Bool) (c : Fin 256) :
    (s.clampFades p).fdu.levels.get c =
      if (s.ct.present c && p (rowOf c)) = true then (s.fdu.levels.get c).map fun v => min v (s.ct.shedLevelOf c)
      else s.fdu.levels.get c := by
  simp [clampFades]

@[simp] theorem clampFades_profiles (s : State) (p : Fin 8 → Bool) : (s.clampFades p).fdu.profiles = s.fdu.profiles := rfl

@[simp] theorem clampFades_timer (s : State) (p : Fin 8 → Bool) : (s.clampFades p).fdu.timer = s.fdu.timer := rfl

@[simp] theorem fadeCells_levels (s : State) (c : Fin 256) :
    s.fadeCells.fdu.levels.get c = if s.ct.present c = true then some (s.fadedLevel c) else s.fdu.levels.get c := by
  simp [fadeCells]

@[simp] theorem fadeCells_lau (s : State) (c : Fin 256) :
    s.fadeCells.lau.cells.get c = if s.ct.present c = true then s.lauComputed c else s.lau.cells.get c := by
  simp [fadeCells]

@[simp] theorem fadeCells_mode (s : State) : s.fadeCells.lau.mode = s.lau.mode := rfl

@[simp] theorem fadeCells_profiles (s : State) : s.fadeCells.fdu.profiles = s.fdu.profiles := rfl

@[simp] theorem fadeCells_timer (s : State) : s.fadeCells.fdu.timer = some 0 := rfl

/-- A moved level never passes the goal (R112). -/
theorem moveLevel_between (p : Profile) (level goal : Nat) :
    min level goal ≤ moveLevel p level goal ∧ moveLevel p level goal ≤ max level goal := by
  unfold moveLevel; split
  · omega
  · split <;> omega

/-! ## The luminaire link -/

/-- A row posted is in the queue (R131). -/
theorem mem_post (l : LuminaireLink) (r : Fin 8) : r ∈ (l.post r).queue := by
  unfold LuminaireLink.post
  split
  · rename_i h; simpa using h
  · simp

/-- Posting keeps every row's place, and appends at the tail at most the one row (R131). -/
theorem post_queue (l : LuminaireLink) (r : Fin 8) : (l.post r).queue = l.queue ++ if r ∈ l.queue then [] else [r] := by
  unfold LuminaireLink.post
  by_cases h : r ∈ l.queue <;> simp [h]

/-- Posting changes the queue and nothing else of the link. -/
theorem post_eq (l : LuminaireLink) (r : Fin 8) : l.post r = { l with queue := (l.post r).queue } := by
  unfold LuminaireLink.post; split <;> rfl

theorem foldl_post_eq (rows : List (Fin 8)) (l : LuminaireLink) :
    rows.foldl LuminaireLink.post l = { l with queue := (rows.foldl LuminaireLink.post l).queue } := by
  induction rows generalizing l with
  | nil => rfl
  | cons r rows ih => rw [List.foldl_cons, ih, post_eq]

/-- Rows without repeats posted in order: those not yet queued are appended in that order (R131). -/
theorem foldl_post_queue (rows : List (Fin 8)) (l : LuminaireLink) (h : rows.Nodup) :
    (rows.foldl LuminaireLink.post l).queue = l.queue ++ rows.filter fun r => !l.queue.contains r := by
  induction rows generalizing l with
  | nil => simp
  | cons r rows ih =>
    have hr := (List.nodup_cons.mp h).1
    rw [List.foldl_cons, ih _ (List.nodup_cons.mp h).2, post_queue]
    by_cases hm : r ∈ l.queue
    · simp [hm]
    · simp only [hm, if_false, List.append_assoc, List.filter_cons, List.contains_eq_mem, decide_false, Bool.not_false, if_true,
        List.singleton_append]
      congr 2
      apply List.filter_congr
      intro x hx
      have : x ≠ r := fun e => hr (e ▸ hx)
      simp [this]

/-- A prompt changes nothing while a frame is in flight or outside RUN. -/
theorem prompt_busy {s : State} (h : ¬ (s.llc.state = .run ∧ s.llc.flight = none)) : s.prompt = s := by
  unfold prompt; rw [if_neg h]

/-- A prompt on an idle link in RUN is a selection. -/
theorem prompt_idle {s : State} (h1 : s.llc.state = .run) (h2 : s.llc.flight = none) : s.prompt = s.select := by
  unfold prompt; rw [if_pos ⟨h1, h2⟩]

/-- The state a selection judges, once line 1a has cleared a pending-shed flag that no set latch stands behind (R133). -/
def unshed (s : State) : State := s.setLlc { s.llc with pendingShed := false }

/-- A selection, line by line (R133). -/
theorem select_eq (s : State) :
    s.select =
      if (s.llc.pendingShed && s.fsc.latch) = true then s.setLlc { s.llc.start s.stageShed with pendingShed := false }
      else if s.llc.pendingInit = true then s.unshed.setLlc { s.unshed.llc.start .initGroup with pendingInit := false }
      else if s.llc.pendingInterval.isSome = true then s.unshed.setLlc (s.unshed.llc.start .allTouch)
      else
        match s.unshed.dueRow with
        | some r =>
          if (s.unshed.rowDiffers r && s.unshed.rowReady r) = true then s.unshed.startBurst r
          else s.unshed.setLlc (s.unshed.llc.start .allTouch)
        | none =>
          match s.llc.queue.find? s.unshed.rowReady with
          | some r => s.unshed.startBurst r
          | none => s.unshed := rfl

/-- Staging, readiness, differing and due rows do not look at the pending-shed flag. -/
theorem unshed_reads (s : State) :
    s.unshed.dueRow = s.dueRow ∧ s.unshed.rowReady = s.rowReady ∧ s.unshed.rowDiffers = s.rowDiffers ∧
      s.unshed.stageBurst = s.stageBurst := ⟨rfl, rfl, rfl, rfl⟩

/-- The completion of a frame acts only on the frame in flight. -/
theorem completeIf_eq {s : State} {f : Flight} (h : s.llc.flight = some f) (p : Flight → Bool) :
    s.completeIf p = if p f then (if f.cut then s.cutDone f.frame else s.frameDone f.frame).freeLink else s := by
  simp [completeIf, h, complete]

/-! ## Sensors -/

/-- The two blocks that a sensor's new record and its hand-off change. -/
theorem putSensor_eq (s : State) (i : Fin 16) (x : Sensor × HandOff) :
    (s.putSensor i x).slu = { s.slu with sensors := s.slu.sensors.set i x.1 } ∧
      (s.putSensor i x).dle =
        { s.dle with sections := s.dle.sections.set i ((s.dle.sections.get i).take x.2) } := ⟨rfl, rfl⟩

/-- With no poll in flight a reply or its absence changes nothing (R27). -/
theorem endPoll_none {s : State} {l : Fin 4} (h : s.slu.inFlight.get l = none)
    (outcome : Fin 4 → Sensor → Sensor × HandOff) : s.endPoll l outcome = s := by simp [endPoll, h]

/-- A poll in flight ends, and its sensor takes the outcome (R28, R29). -/
theorem endPoll_some {s : State} {l : Fin 4} {q : Poll} (h : s.slu.inFlight.get l = some q)
    (outcome : Fin 4 → Sensor → Sensor × HandOff) :
    s.endPoll l outcome =
      (s.setSlu { s.slu with inFlight := s.slu.inFlight.set l none }).putSensor (sensorAt l q.position)
        (outcome q.position (s.slu.sensors.get (sensorAt l q.position))) := by simp [endPoll, h]

/-- A character is partly received for its first ten bit times (R23, R27). -/
theorem receiving_iff (u : SensorLinks) (l : Fin 4) :
    u.receiving l = true ↔ ∃ n, (u.lines.get l).character = some n ∧ 24576 * n < 10 * u.bitUnits l := by
  unfold SensorLinks.receiving SensorLinks.lasted
  cases (u.lines.get l).character <;> simp

/-- A line is held low after more than eleven bit times (R27). -/
theorem heldLow_iff (u : SensorLinks) (l : Fin 4) :
    u.heldLow l = true ↔ ∃ n, (u.lines.get l).low = some n ∧ 11 * u.bitUnits l < 24576 * n := by
  unfold SensorLinks.heldLow characterBits
  cases (u.lines.get l).low <;> simp

/-- The busy test of R27. -/
theorem busy_iff (u : SensorLinks) (l : Fin 4) : u.busy l = true ↔ u.receiving l = true ∨ u.heldLow l = true := by
  simp [SensorLinks.busy]

/-- A receive line after a full reset: as low as it was, with no character on it (R27, R144). -/
@[simp] theorem fullReset_line (s : State) (l : Fin 4) : s.fullReset.slu.lines.get l = ⟨none, (s.slu.lines.get l).low⟩ := by
  simp [fullReset, RxLine.throughReset]

/-- A line that goes low in reset counts as low from then on, or from when it went low before. -/
@[simp] theorem lineFallsHeld_line (u : SensorLinks) (l : Fin 4) :
    (u.lineFallsHeld l).lines.get l = { u.lines.get l with low := some ((u.lines.get l).low.getD 0) } := by
  simp [SensorLinks.lineFallsHeld]

/-- The limits of R28, before and after the reply's first start bit. -/
theorem pollOver_iff (u : SensorLinks) (l : Fin 4) (p : Poll) :
    u.pollOver l p = true ↔
      (p.started = none ∧ 44 * u.bitUnits l ≤ 24576 * p.elapsed) ∨
        ∃ e, p.started = some e ∧ 66 * u.bitUnits l ≤ 24576 * (p.elapsed - e) := by
  unfold SensorLinks.pollOver SensorLinks.lasted
  cases p.started <;> simp only [decide_eq_true_eq] <;> simp [characterBits, startLimit, completionLimit]

/-! ## The clock -/

/-- A running count has reached its period when it runs and is at least that. -/
@[simp] theorem reached_iff (count : Option Nat) (period : Nat) :
    reached count period = true ↔ ∃ n, count = some n ∧ period ≤ n := by cases count <;> simp [reached]

theorem mem_alone (c d : Instr) (p : Prop) [Decidable p] : (c ∈ if p then [d] else []) ↔ c = d ∧ p := by split <;> simp [*]

/-- The row that completes a flight is of the flight's own kind. -/
theorem completion_cases (f : Flight) :
    (f.cut = true ∧ f.completion = .cutFrameComplete) ∨
      (f.cut = false ∧
        ((f.frame = .initGroup ∧ f.completion = .initGroupComplete) ∨
          (∃ r first bays, f.frame = .burst r first bays ∧ f.completion = .burstComplete) ∨
          (f.frame = .allTouch ∧ f.completion = .allTouchComplete) ∨
          (∃ levels, f.frame = .shed levels ∧ f.completion = .shedFrameComplete))) := by
  unfold Flight.completion
  cases f.cut <;> cases f.frame <;> simp

/-- SHEDn's level becomes the observed state, once it has stood for 1 ms and is not that state (R150). -/
theorem qualified_iff (f : Floor) (c : Instr) :
    f.qualified = some c ↔
      (c = .shednAsserted ∧ Timing.qualify ≤ f.steady ∧ f.lineAsserted = false ∧ f.shedn = false) ∨
        (c = .shednReleased ∧ Timing.qualify ≤ f.steady ∧ f.lineAsserted = true ∧ f.shedn = true) := by
  unfold Floor.qualified
  cases f.lineAsserted <;> cases f.shedn <;> simp [eq_comm (b := c), and_comm]

/-- The rows whose time has come, kind by kind. -/
theorem mem_dueNow (s : State) (c : Instr) :
    c ∈ s.dueNow ↔
      (c = .loadComplete ∧ reached s.sst.loading Timing.load = true) ∨
      (c = .saveComplete ∧ reached (s.sst.saving.map Saving.elapsed) Timing.save = true) ∨
      s.fsc.qualified = some c ∨
      (c = .addressByte .released ∧ reached s.zbi.lines.hold Timing.clockHold = true) ∨
      (c = .clockLowTimeout ∧ s.zbi.lines.low = some Timing.clockLow) ∨
      (c = .rluOneSecondTimer ∧ reached s.rlu.timer Timing.second = true) ∨
      (c = .dleOneSecondTimer ∧ reached s.dle.timer Timing.second = true) ∨
      (∃ r, c = .freezeTimerExpiry r ∧ (s.ct.rows.get r).freeze = .frozen 0) ∨
      (∃ i, c = .healthTimeout i ∧ s.healthDue i = true) ∨
      (∃ l, c = .noReply l ∧ s.pollLapsed l = true) ∨
      (∃ l, c = .pollTimer l .expires ∧ reached (s.slu.timers.get l) Timing.poll = true) ∨
      (c = .reInitTimer ∧ reached s.llc.reInit Timing.reInit = true) ∨
      (∃ r, c = .rowDue r ∧ s.ageDue r = true) ∨
      (c = .fadeEvent ∧ reached s.fdu.timer Timing.fade = true) ∨
      ∃ f, s.llc.flight = some f ∧ f.ends ≤ f.elapsed ∧ c = f.completion := by
  unfold dueNow
  simp only [List.mem_append, mem_alone, List.mem_map, List.mem_filter, List.mem_finRange, true_and, decide_eq_true_eq,
    Option.mem_toList, Option.map_eq_some_iff, Option.filter_eq_some_iff, or_assoc, and_assoc]
  simp only [eq_comm (b := c), and_comm (b := c = _)]

/-- What a row that happens leaves is what `exec` answers. -/
theorem happen_eq {s t : State} {c : Instr} (h : exec c s = .next t) : s.happen c = t := by simp [happen, h]

end State

end Sys2Proof.Machine
end

