-- ==== Sys2Proof/Tests/Slice0.lean ====
section
/-! SUPPORT. Tests on single steps, expected values taken from the spec's worked examples and tables (each says which), and the smoke
test of `wellFormed`. The witnesses of the obligations are in Tests/Witnesses.lean. -/

namespace Sys2Proof.Tests

set_option Elab.async false

open Sys2Proof.Machine Sys2Proof.Machine.State

/-! ## Small states -/

/-- The part after one command. -/
def after (s : State) (c : Instr) : State :=
  match exec c s with
  | .next t => t
  | .fault _ => s
  | .refused _ => s

/-- The part after several commands. -/
def afterAll (s : State) (l : List Instr) : State := l.foldl after s

/-- A part in RUN: factory defaults loaded, the INIT group complete, the eight rows queued but not ready. -/
def running : State := afterAll State.reset [.loadComplete, .initGroupComplete]

/-- The master table of section 4.2. -/
def masters : Table MasterSlot 3 :=
  ((((Live.factory.slots.set (1 : Fin 8) ⟨.supervisor, 0x10, 2⟩).set (2 : Fin 8) ⟨.occupant, 0x20, 4⟩).set (3 : Fin 8)
    ⟨.occupant, 0x21, 4⟩).set (4 : Fin 8) ⟨.occupant, 0x22, 3⟩).set (5 : Fin 8) ⟨.blind, 0x30, 0⟩

/-- The part in RUN with that master table. -/
def staffed : State := running.setZbi { running.zbi with slots := masters }

/-- The part after an address byte for write. -/
def opened (s : State) : State := after s (.addressByte (.address (writeAddress s.zbi.own)))

/-- The part after an address byte for write and one request. -/
def send (s : State) (c : Instr) : State := after (opened s) c

/-- The part in RUN, receiving on its own address. -/
def tool : State := opened staffed

/-- The data of the reply held. -/
def replyData (s : State) : List Byte := (s.zbi.reply.map Reply.data).getD []

/-- The part with one cell's calibration. -/
def withCell (s : State) (c : Fin 256) (k : Calibration) : State := s.setCt { s.ct with cells := s.ct.cells.set c k }

/-- The part with one row record. -/
def withRow (s : State) (r : Fin 8) (x : RowRecord) : State := s.setCt { s.ct with rows := s.ct.rows.set r x }

/-- The part with one sensor FRESH and its section seeded, at a blind step. -/
def withSection (s : State) (i : Fin 16) (lux : Nat) (step : Fin 16) : State :=
  (s.setSlu { s.slu with sensors := s.slu.sensors.set i { s.slu.sensors.get i with health := .fresh } }).setDle
    { s.dle with sections := s.dle.sections.set i ⟨some lux, 3, some step, none⟩ }

/-- The part with a request list and every record resolved from it. -/
def withList (s : State) (l : List Entry) : State :=
  s.setRlu { s.rlu with list := l, resolved := .ofFn fun c : Fin 256 => resolve s.ct l c }

/-- An entry of a key, kind and priority that covers every cell, indefinitely. -/
def entry (slot : Fin 8) (tag : Fin 16) (kind : Kind) (value : Nat) (priority : Fin 8) : Entry :=
  ⟨slot, tag, kind, value, .all, priority, none, 256⟩

/-- Sixteen entries of one slot, or as many as named. -/
def entriesOf (slot : Fin 8) (kind : Kind) (priority : Fin 8) (tags : List (Fin 16)) : List Entry :=
  tags.map fun t => entry slot t kind 500 priority

/-- The full list of section 4.7. -/
def fullList : List Entry :=
  entriesOf 1 .cap 2 ((List.finRange 16).take 10) ++ entriesOf 1 .target 2 ((List.finRange 16).drop 10) ++
    entriesOf 2 .target 4 (List.finRange 16) ++ entriesOf 3 .target 4 (List.finRange 16)

/-- The list of section 4.7 after its first event: (1,10) evicted, (4,0) appended. -/
def evictedList : List Entry := fullList.filter (fun e => !decide (e.slot = 1 ∧ e.tag = 10)) ++ [entry 4 0 .target 500 3]

/-- A SET payload: tag, value, hold, form and parameters. -/
def setPayload (tag : Byte) (value hold : Nat) (form : Byte) (parameters : List Byte) : List Byte :=
  tag :: (halfBytes value ++ halfBytes hold ++ form :: parameters)

/-! ## Well-formedness -/

theorem test_wellFormed_payload_length :
    (Instr.night 0x7E (List.replicate 64 0)).wellFormed = true ∧ (Instr.night 0x7E (List.replicate 65 0)).wellFormed = false := by
  decide

theorem test_wellFormed_unknown_code :
    (Instr.requestWithUnknownCode 0x07 0x7E []).wellFormed = true ∧
      (Instr.requestWithUnknownCode 0x43 0x7E []).wellFormed = false := by decide

theorem test_wellFormed_discarded_length :
    (Instr.requestDiscarded 0x7E 0x40 1 [0] 0).wellFormed = true ∧ (Instr.requestDiscarded 0x7E 0x40 2 [0] 0).wellFormed = false ∧
      (Instr.requestDiscarded 0x7E 0x40 65 [] 0).wellFormed = true := by decide

theorem test_wellFormed_reply_read : (Instr.replyRead 1 true).wellFormed = true ∧ (Instr.replyRead 0 true).wellFormed = false := by
  decide

theorem test_wellFormed_gaps :
    (Instr.sensorReply 0 (sentChar 0x88 (1 / 5)) (sentChar 0xEE) (sentChar 0x8A)).wellFormed = true ∧
      (Instr.sensorReply 0 (sentChar 0x88) (sentChar 0xEE (-1)) (sentChar 0x8A)).wellFormed = false := by decide +kernel

/-- No row of the table gives bits, so no word spells a command. -/
theorem test_no_word_spells_a_command : decodeTableWord 8 0x40 = none := by decide

/-- The codes that WellFormed knows are those of the catalogue, each named by one request (section 11.2). -/
theorem test_catalogue_codes : Request.every.map Request.code = catalogueCodes ∧ catalogueCodes.Nodup := by decide

/-! ## Resets and start-up (chapter 8) -/

/-- R157: a power-on while SAVING leaves the check word invalid. -/
theorem test_powerOn_cuts_a_save :
    (after (send staffed (.saveSettings 0x7E [])) .powerOn).sst.store.check = none ∧
      (after running .powerOn).sst.store.check = some 0 := by decide +kernel

/-- R144: while RSTn is low SHEDn is not observed. -/
theorem test_rstnLow_holds :
    let f := (afterAll running [.rstnLow, .addressByte (.shedn false), .shednAsserted]).fsc
    f = { State.reset.fsc with resetHeld := true, shedn := false } ∧ f.lineAsserted = false ∧ f.latch = false := by decide +kernel

theorem test_rstnRelease_starts :
    (afterAll running [.rstnLow, .rstnRelease]).sst.loading = some 0 ∧ (after running .rstnRelease).llc.state = .run := by
  decide +kernel

/-- R146, R145: a part that has never saved comes up on factory defaults, with its INIT group on the line. -/
theorem test_loadComplete_factory :
    (after State.reset .loadComplete).sst.unconfigured = true ∧ (after State.reset .loadComplete).llc.state = .init ∧
      (after State.reset .loadComplete).fsc.part = .starting := by decide +kernel

/-- R125, R145: RUN, and every configured row posted in ascending order. -/
theorem test_initGroup_enters_run :
    running.fsc.part = .run ∧ running.llc.queue = [0, 1, 2, 3, 4, 5, 6, 7] ∧ running.llc.flight = none := by decide +kernel

/-! ## The request list (sections 4.2, 4.7) -/

/-- Section 4.2, event 1: DONE, APPENDED, coverage 256, count 1. -/
theorem test_setTarget_appended :
    (send staffed (.setTarget 0x10 (setPayload 0 450 0 0 []))).repliedStatus = some .done ∧
      replyData (send staffed (.setTarget 0x10 (setPayload 0 450 0 0 []))) = [0, 0xFF, 1, 0, 1] := by decide +kernel

/-- Section 4.7: (1,10) is evicted by slot 4; slot 1 finds nothing weaker. -/
theorem test_setTarget_evicts :
    replyData (send (withList staffed fullList) (.setTarget 0x22 (setPayload 0 500 0 2 [0, 0, 0, 3]))) = [2, 0x1A, 0, 4, 48] ∧
      (send (withList staffed evictedList) (.setTarget 0x10 (setPayload 10 500 0 0 []))).repliedStatus = some .refusedFull := by
  decide +kernel

/-- Section 4.2, event 2: coverage 8. -/
theorem test_setFixed_rect :
    replyData (send staffed (.setFixed 0x20 (setPayload 3 700 3600 2 [0, 1, 4, 7]))) = [0, 0xFF, 0, 8, 1] := by decide +kernel

/-- Section 4.2, event 3, and section 4.7: an 800 cap of slot 0 evicts (1,11) once (1,10) has gone. -/
theorem test_setCap :
    replyData (send staffed (.setCap 0x10 (setPayload 1 600 900 0 []))) = [0, 0xFF, 1, 0, 1] ∧
      replyData (send (withList staffed evictedList) (.setCap 0x7E (setPayload 0 800 0 0 []))) = [2, 0x1B, 1, 0, 48] := by decide +kernel

/-- Section 4.6's table: FIXED (3,1) 300 and cap 600 for cell 37. -/
theorem test_resolution :
    let t := (withCell running 37 { factoryCell 37 with classByte := 0x05 }).ct
    resolve t
      [entry 1 0 .target 450 2, entry 1 1 .cap 600 2, ⟨2, 4, .target, 650, .mask 0x04, 4, none, 1⟩,
        ⟨3, 1, .fixed, 300, .rect 1 2 4 9, 4, none, 12⟩, ⟨0, 0, .cap, 800, .cell 37, 7, none, 1⟩,
        ⟨4, 2, .fixed, 900, .mask 0x02, 3, none, 0⟩] 37 = ⟨.fixed 3 1 300, some 600⟩ := by decide +kernel

theorem test_release_needs_the_senders_slot :
    (send (withList staffed [entry 1 0 .target 450 2]) (.release 0x20 [0])).repliedStatus = some .doneNothing ∧
      replyData (send (withList staffed [entry 1 0 .target 450 2]) (.release 0x10 [0])) = [1, 0] := by decide +kernel

/-- Section 4.7 before its evictions: slot 1 holds 16 of the 48 entries. -/
theorem test_releaseOwn : replyData (send (withList staffed fullList) (.releaseOwn 0x10 [])) = [16, 32] := by decide +kernel

theorem test_releaseSlot :
    replyData (send (withList staffed fullList) (.releaseSlot 0x10 [3])) = [16, 32] ∧
      (send staffed (.releaseSlot 0x10 [8])).repliedStatus = some .refusedFormat := by decide +kernel

/-- R75: a hold of 1 ends, a hold of 2 becomes 1, an indefinite entry stays. -/
theorem test_rluOneSecondTimer :
    (after (withList staffed [{ entry 1 0 .target 450 2 with hold := some 1 }, { entry 1 1 .cap 600 2 with hold := some 2 },
      entry 2 0 .fixed 300 4]) .rluOneSecondTimer).rlu.list.map Entry.hold = [some 1, none] := by decide +kernel

/-! ## Daylight and sensors (chapters 2, 3) -/

/-- Section 3.2's table: 10,000, then 18,000 three times, then 12,000; and near the sample +1. -/
theorem test_filter :
    let steps := fun (f : Nat) (l : List Nat) =>
      l.foldl (fun (c : Section) x => c.take (.filterStep x)) (⟨some f, 3, none, none⟩ : Section)
    (steps 10000 [18000, 18000, 18000]).filtered = some 12640 ∧ (steps 12640 [12000]).filtered = some 12560 ∧
      (steps 17995 [18000]).filtered = some 17996 ∧ (steps 17995 [18000, 18000, 18000, 18000, 18000, 18000]).filtered = some 18000 := by
  decide +kernel

/-- Section 10.1: 40,000 toward 8,000 with k = 3. -/
theorem test_filter_falls :
    (([8000, 8000, 8000, 8000].foldl (fun (c : Section) x => c.take (.filterStep x)) ⟨some 40000, 3, none, none⟩).filtered) =
      some 26759 := by decide +kernel

theorem test_blindStep :
    ((send staffed (.blindStep 0x30 [0x80, 0x01, 20, 0, 60])).dle.sections.get (15 : Fin 16)).step = some 15 ∧
      ((send staffed (.blindStep 0x30 [0x80, 0x01, 20, 0, 60])).dle.sections.get (0 : Fin 16)).hold = some 60 ∧
      ((send staffed (.blindStep 0x30 [0x80, 0x01, 20, 0, 60])).dle.sections.get (1 : Fin 16)).step = none := by decide +kernel

theorem test_writeBlindTable :
    ((send staffed (.writeBlindTable 0x7E (List.replicate 32 1 ++ [16]))).dle.attenuation.get (3 : Fin 16)) = 256 ∧
      (send staffed (.writeBlindTable 0x7E (List.replicate 32 1 ++ [16]))).dle.fallback = 15 := by decide +kernel

theorem test_dleOneSecondTimer :
    let s := running.setDle { running.dle with sections := running.dle.sections.set (2 : Fin 16) ⟨none, 3, some 4, some 1⟩ }
    (after s .dleOneSecondTimer).dle.sections.get (2 : Fin 16) = ⟨none, 3, none, none⟩ := by decide +kernel

/-- The part with a receive line of link 1 as given. -/
def withLine (s : State) (x : RxLine) : State := s.setSlu { s.slu with lines := s.slu.lines.set (1 : Fin 4) x }

/-- The part with a poll of position 0 of link 1 in flight for some ticks. -/
def polled (ticks : Nat) (started : Option Nat) : State :=
  running.setSlu { running.slu with inFlight := running.slu.inFlight.set (1 : Fin 4) (some ⟨0, ticks, started⟩) }

/-- R26: the rotation starts at the lowest present position, and a busy line leaves it there (R27). -/
theorem test_pollTimer :
    (after running (.pollTimer 1 .expires)).slu.inFlight.get (1 : Fin 4) = some ⟨0, 0, none⟩ ∧
      (afterAll running [.pollTimer 1 .falls, .pollTimer 1 .expires]).slu.lastPolled.get (1 : Fin 4) = none ∧
      (afterAll running [.pollTimer 1 .expires, .pollTimer 1 .expires]).slu.inFlight.get (1 : Fin 4) = some ⟨1, 0, none⟩ := by
  decide +kernel

/-- R23, R27 at 9600 bit/s: the stop bit is due after 10 bits, 1041.7 µs, and a character lasts 1145.8 µs. -/
theorem test_line_busy :
    (withLine running ⟨some 130, none⟩).slu.busy 1 = true ∧ (withLine running ⟨some 131, none⟩).slu.busy 1 = false ∧
      (withLine running ⟨some 900, some 143⟩).slu.busy 1 = false ∧ (withLine running ⟨none, some 144⟩).slu.busy 1 = true := by
  decide +kernel

/-- R27, R144: a line low before a RESTART, or low while RSTn is held, is still busy at an expiry after it. -/
theorem test_line_low_through_reset :
    let low := withLine running ⟨some 900, some 143⟩
    let restarted := after (low.setFsc { low.fsc with restartPending := true }) .stop
    restarted.slu.lines.get (1 : Fin 4) = ⟨none, some 143⟩ ∧ restarted.fsc.part = .starting ∧
      (afterAll restarted [.loadComplete, .initGroupComplete]).tick.slu.busy 1 = true ∧
      (afterAll running [.rstnLow, .pollTimer 1 .falls, .rstnRelease]).slu.lines.get (1 : Fin 4) = ⟨none, some 0⟩ ∧
      (afterAll low [.rstnLow, .pollTimer 1 .rises, .rstnRelease]).slu.lines.get (1 : Fin 4) = .resting := by decide +kernel

/-- R28 at 9600 bit/s: the start limit ends 44 bits after the poll's start bit, 4.583 ms; 66 bits are 6.875 ms. -/
theorem test_noReply_limits :
    (polled 572 none).pollLapsed 1 = false ∧ (polled 573 none).pollLapsed 1 = true ∧
      (polled 1359 (some 500)).pollLapsed 1 = false ∧ (polled 1360 (some 500)).pollLapsed 1 = true ∧
      (after (polled 144 none) (.pollTimer 1 .falls)).slu.inFlight.get (1 : Fin 4) = some ⟨0, 144, some 144⟩ ∧
      (after (polled 143 none) (.pollTimer 1 .falls)).slu.inFlight.get (1 : Fin 4) = some ⟨0, 143, none⟩ := by decide +kernel

/-- Section 2.8, first row: count 750 in range 2 is 12,000 lux; the sensor was WAITING, so its section is seeded. -/
theorem test_sensorReply :
    let t := after (polled 600 (some 180)) (.sensorReply 1 (sentChar 0x88 33) (sentChar 0xEE) (sentChar 0x8A))
    (t.slu.sensors.get (4 : Fin 16)).health = .fresh ∧ (t.dle.sections.get (4 : Fin 16)).filtered = some 12000 := by decide +kernel

/-- R28: gaps of 16.2 and 16.3 bits end the reply 65.5 bits after its first start bit, in time; 16.6 and 16.5 pass 66; and a poll
whose limit has run out by the part's own count gives NO_REPLY. -/
theorem test_reply_limits :
    let error := fun (s : State) (g1 g2 g3 : Rat) =>
      ((after s (.sensorReply 1 (sentChar 0x88 g1) (sentChar 0xEE g2) (sentChar 0x8A g3))).slu.sensors.get (4 : Fin 16)).lastError
    error (polled 1000 (some 180)) 33 (81 / 5) (163 / 10) = none ∧ error (polled 1000 (some 180)) 0 (83 / 5) (33 / 2) = some .noReply ∧
      error (polled 1000 (some 180)) (331 / 10) 0 0 = some .noReply ∧ error (polled 1039 (some 180)) 0 0 0 = none ∧
      error (polled 1040 (some 180)) 0 0 0 = some .noReply ∧ error (polled 573 none) 0 0 0 = some .noReply := by decide +kernel

/-- Section 2.8, 2.2 s: the eighth consecutive error fails a FRESH sensor and unseeds its section. -/
theorem test_noReply_eighth :
    let s := withSection running 4 12000 0
    let s := s.setSlu { s.slu with sensors := s.slu.sensors.set (4 : Fin 16) { s.slu.sensors.get (4 : Fin 16) with errors := 7 } }
    let t := afterAll s [.pollTimer 1 .expires, .noReply 1]
    (t.slu.sensors.get (4 : Fin 16)).health = .failed ∧ (t.slu.sensors.get (4 : Fin 16)).errors = 8 ∧
      (t.dle.sections.get (4 : Fin 16)).filtered = none := by decide +kernel

/-- Section 2.9: FRESH becomes STALE and keeps its value; STALE becomes FAILED. -/
theorem test_healthTimeout :
    let s := after (withSection running 13 9000 0) (.healthTimeout 13)
    (s.slu.sensors.get (13 : Fin 16)).health = .stale ∧ (s.dle.sections.get (13 : Fin 16)).filtered = some 9000 ∧
      ((after s (.healthTimeout 13)).slu.sensors.get (13 : Fin 16)).health = .failed := by decide +kernel

/-! ## Calibration (chapter 1) -/

/-- Section 1.6's first example: cells 92..95, DONE_CLAMPED, FILLED, 4 cells. -/
theorem test_writeCellField :
    let s := send staffed (.writeCellField 0x7E [2, 28, 8, 2, 0, 150, 0, 120, 0x04, 0xB0, 0, 90])
    s.repliedStatus = some .doneClamped ∧ replyData s = [0, 4] ∧
      [92, 93, 94, 95].map (fun c : Fin 256 => (s.ct.cells.get c).floor) = [120, 1000, 90, 150] := by decide +kernel

/-- Section 1.6's second write: TRUNCATED, not clamped by its unused fill. -/
theorem test_writeCellField_truncated :
    let s := send staffed (.writeCellField 0x7E [2, 28, 2, 2, 0x13, 0x88, 0, 100, 0, 100, 0, 100])
    s.repliedStatus = some .done ∧ replyData s = [2, 2] ∧ (s.ct.cells.get (94 : Fin 256)).floor = 100 := by decide +kernel

/-- R15: both values clamped, the row frozen for 60 s. -/
theorem test_writeRow :
    (send staffed (.writeRow 0x7E [5, 0x27, 0x11, 0x03, 0xE9])).ct.rows.get (5 : Fin 8) = ⟨10000, 1000, .frozen 7500000⟩ ∧
      (send staffed (.writeRow 0x7E [5, 0x27, 0x11, 0x03, 0xE9])).repliedStatus = some .doneClamped := by decide +kernel

theorem test_calApply :
    let s := send staffed (.writeRow 0x7E [5, 0, 30, 1, 0xF4])
    (send s (.calApply 0x7E [5])).ct.rows.get (5 : Fin 8) = ⟨30, 500, .live⟩ ∧
      (send s (.calApply 0x7E [4])).repliedStatus = some .doneNothing ∧ (send s (.calApply 0x7E [0xFF])).repliedStatus = some .done := by
  decide +kernel

theorem test_freezeTimerExpiry :
    let s := send staffed (.writeRow 0x7E [5, 0, 30, 1, 0xF4])
    s.ct.held.get (165 : Fin 256) = some 100 ∧ (after s (.freezeTimerExpiry 5)).ct.held.get (165 : Fin 256) = none := by
  decide +kernel

/-- Section 5.5: at night every factory cell is saturated and sets its shortfall flag. -/
theorem test_clearShortfall :
    let s := send (after staffed .fadeEvent) (.clearShortfall 0x10 [3])
    replyData s = [0, 32] ∧ (s.lau.cells.get (96 : Fin 256)).shortfall = false ∧ (s.lau.cells.get (95 : Fin 256)).shortfall = true := by
  decide +kernel

/-! ## The fade event (chapters 5, 6) -/

/-- Section 5.5's cell 140 in Dither mode, with a residue. -/
def dithering (residue : Nat) : State :=
  let s := withCell (withRow (withSection running 6 40000 4) 4 ⟨40, 500, .live⟩) 140 { factoryCell 140 with efficacy := 650 }
  s.setLau { mode := .dither, cells := s.lau.cells.set (140 : Fin 256) { LauCell.cleared with residue := residue } }

/-- Section 5.5, fade events 1, 2 and 8: D = 120; levels 584, 585, 585; residues 9, 2, 8. -/
theorem test_fadeEvent_dither :
    let cell := fun residue => (after (dithering residue) .fadeEvent).lau.cells.get (140 : Fin 256)
    (cell 0).lastDaylight = some 120 ∧ (cell 0).lastGoal = some 584 ∧ (cell 0).residue = 9 ∧
      (cell 9).lastGoal = some 585 ∧ (cell 9).residue = 2 ∧ (cell 15).lastGoal = some 585 ∧ (cell 15).residue = 8 := by
  decide +kernel

/-- Section 5.7's cell 162: FIXED 900, cap 600, and shed level 500 once the latch is set. -/
theorem test_fadeEvent_limits :
    let s := withList running [entry 3 2 .fixed 900 4, entry 1 1 .cap 600 2]
    let cell := fun t : State => (after t .fadeEvent).lau.cells.get (162 : Fin 256)
    (cell s).lastGoal = some 600 ∧ (cell s).capped = true ∧ (cell s).shedLimited = false ∧
      (cell (after s .shednAsserted)).lastGoal = some 500 ∧ (cell (after s .shednAsserted)).shedLimited = true := by decide +kernel

/-- Section 5.5's edges of stages 3 and 4. -/
theorem test_quantiser_edges :
    (levelOf .chop 0 2000 2001, levelOf .round 0 2000 2001, levelOf .dither 0 2000 2001) =
        ((999, 0, false), (1000, 0, false), (999, 8, false)) ∧
      levelOf .dither 0 1 4000 = (0, 4, false) ∧ levelOf .round 5 500 500 = (1000, 0, true) ∧ levelOf .dither 5 0 500 = (0, 0, false) := by
  decide +kernel

/-- Section 6.4's cell 100: up by 40 to at most 620, down by 4. -/
theorem test_fade_steps :
    moveLevel (factoryProfile 0) 300 620 = 340 ∧ moveLevel (factoryProfile 0) 600 620 = 620 ∧
      moveLevel (factoryProfile 0) 620 560 = 616 ∧ moveLevel (factoryProfile 0) 560 560 = 560 := by decide

/-! ## The luminaire link (chapter 7) -/

/-- The lit part: the first fade event has seeded every cell, and the first row's burst is on the line. -/
def lit : State := after staffed .fadeEvent

theorem test_first_burst :
    (lit.llc.flight.map Flight.ends) = some 781 ∧ lit.llc.queue = [1, 2, 3, 4, 5, 6, 7] ∧
      lit.fdu.levels.get (0 : Fin 256) = some 1000 := by decide +kernel

/-- Section 7.1's frame lengths: 2.112, 6.248, 0.792, 0.264 and 1.848 ms. -/
theorem test_frame_lengths :
    [Frame.initGroup, .burst 0 0 (List.replicate 32 ⟨0, true⟩), .burst 0 0 [⟨0, true⟩], .allTouch, .shed (.const 0 3)].map
      (fun f => Timing.frame f * 8) = [2112, 6248, 792, 264, 1848] := by decide

/-- A burst's characters: ROW OPEN, start bay, count, level, check, TAKE (section 11.4, R176). -/
theorem test_burst_characters :
    (Frame.burst 4 12 [⟨620, true⟩]).characters = [0x114, 12, 1, 2, 108, 133, 0x120] := by decide

theorem test_burstComplete :
    (after lit .burstComplete).llc.taken.get (31 : Fin 256) = some 1000 ∧
      (after lit .burstComplete).llc.taken.get (32 : Fin 256) = none ∧ (after lit .burstComplete).llc.ages.get (0 : Fin 8) = some 0 := by
  decide +kernel

/-- Section 7.6: cut 2.000 ms into a burst of 32 bays, the frame completes at 2.200 ms. -/
theorem test_shednAsserted_cuts :
    let s := lit.setLlc { lit.llc with flight := lit.llc.flight.map fun f => { f with elapsed := 250 } }
    let t := after s .shednAsserted
    t.llc.flight.map (fun f => (f.ends * 8, f.cut)) = some (2200, true) ∧ t.fdu.levels.get (0 : Fin 256) = some 500 ∧
      t.llc.pendingShed = true := by decide +kernel

/-- Section 7.6, 2.200 ms: the row is posted again and the SHED frame starts; at its completion taken levels stand at most at 500. -/
theorem test_cutFrameComplete_then_shed :
    let s := lit.setLlc { lit.llc with taken := lit.llc.taken.set (0 : Fin 256) (some 700) }
    let t := afterAll s [.shednAsserted, .cutFrameComplete]
    t.llc.queue = [1, 2, 3, 4, 5, 6, 7, 0] ∧ t.llc.flight.map Flight.ends = some 231 ∧ t.llc.taken.get (0 : Fin 256) = some 700 ∧
      (after t .shedFrameComplete).llc.taken.get (0 : Fin 256) = some 500 := by decide +kernel

/-- R137: a burst of 32 bays, 69 characters, is cut even on its TAKE, up to the end of that character and not after it. -/
theorem test_cut_in_take :
    let at_ := fun n => after (lit.setLlc { lit.llc with flight := lit.llc.flight.map fun f => { f with elapsed := n } }) .shednAsserted
    (at_ 758).llc.flight.map (fun f => (f.ends, f.cut)) = some (781, true) ∧
      (at_ 759).llc.flight.map (fun f => (f.ends, f.cut)) = some (781, false) := by decide +kernel

/-- R121, R122: LDE from INIT on; LTX at rest in OFF, low in the INIT character's start bit, and 55h with marker 1 after it. -/
theorem test_pins :
    let s := after State.reset .loadComplete
    let level := fun n => (s.setLlc { s.llc with flight := s.llc.flight.map fun f => { f with elapsed := n } }).ltx
    State.reset.lde = false ∧ State.reset.ltx = true ∧ s.lde = true ∧
      (List.range 12).map level = [false, true, false, true, false, true, false, true, false, true, true, true] ∧
      level 33 = false := by decide +kernel

/-- R153: the released line leaves the latch set. -/
theorem test_shednReleased :
    (afterAll lit [.shednAsserted, .shednReleased]).fsc.latch = true ∧
      (afterAll lit [.shednAsserted, .shednReleased]).fsc.lineAsserted = false := by decide +kernel

/-- The part with SHEDn at a level for some ticks. -/
def stood (s : State) (high : Bool) (ticks : Nat) : State := s.setFsc { s.fsc with shedn := high, steady := ticks }

/-- R150, R151: low for 125 ticks, 1 ms, asserts and sets the latch; 124 ticks, or a break, do not; high for 1 ms releases it. -/
theorem test_shedn_qualified :
    let low := after running (.addressByte (.shedn false))
    low.fsc.steady = 0 ∧ (stood low false 123).tick.fsc.lineAsserted = false ∧
      (stood low false 124).tick.fsc.lineAsserted = true ∧ (stood low false 124).tick.fsc.latch = true ∧
      (after (stood low false 124) (.addressByte (.shedn true))).tick.fsc.lineAsserted = false ∧
      (let up := after (stood low false 124).tick (.addressByte (.shedn true))
       (stood up true 123).tick.fsc.lineAsserted = true ∧ (stood up true 124).tick.fsc.lineAsserted = false ∧
         (stood up true 124).tick.fsc.latch = true) := by decide +kernel

/-- R150, R154: a full reset with SHEDn low clears the latch until 1 ms into STARTING. -/
theorem test_shedn_low_through_reset :
    let s := after (after lit .shednAsserted) .powerOn
    s.fsc.latch = false ∧ s.fsc.shedn = false ∧ s.fsc.steady = 0 ∧ (stood s false 124).tick.fsc.latch = true ∧
      (stood s false 124).tick.fsc.part = .starting := by decide +kernel

/-- A settled part: nothing differs, nothing waits. -/
def settled : State := lit.setLlc { lit.llc with taken := lit.fdu.levels, queue := [], flight := none }

/-- R133, line 4: a due row that needs no burst is refreshed with an ALL-TOUCH, which resets every age. -/
theorem test_rowDue_then_allTouch :
    (after settled (.rowDue 3)).llc.flight.map Flight.ends = some 33 ∧
      (after settled (.rowDue 3)).llc.ages.get (3 : Fin 8) = some 31250 ∧
      (afterAll settled [.rowDue 3, .allTouchComplete]).llc.ages.get (3 : Fin 8) = some 0 := by decide +kernel

/-- R139: an expiry on an idle link sends an INIT group. -/
theorem test_reInitTimer :
    (after settled .reInitTimer).llc.flight.map (fun f => (f.frame, f.ends)) = some (.initGroup, 264) ∧
      (afterAll settled [.reInitTimer, .initGroupComplete]).llc.taken.get (7 : Fin 256) = none := by decide +kernel

/-! ## Floor states and settings (chapter 8, 9) -/

theorem test_night :
    (send (withSection staffed 4 9000 0) (.night 0x10 [])).fsc.part = .standby ∧
      ((send (withSection staffed 4 9000 0) (.night 0x10 [])).dle.sections.get (4 : Fin 16)).filtered = none := by decide +kernel

theorem test_day : (send (send staffed (.night 0x10 [])) (.day 0x10 [])).slu.polling = true := by decide +kernel

theorem test_shed : (send (send staffed (.shed 0x10 [])) (.shed 0x10 [])).repliedStatus = some .doneNothing := by decide +kernel

/-- Section 10.3: SHED CLEAR is refused while the line is asserted. -/
theorem test_shedClear :
    (send (after staffed .shednAsserted) (.shedClear 0x10 [])).repliedStatus = some .refusedState ∧
      (send (afterAll staffed [.shednAsserted, .shednReleased]) (.shedClear 0x10 [])).fsc.latch = false := by decide +kernel

/-- R169: the last COMMISSIONING slot stays. -/
theorem test_writeMasterSlot :
    (send staffed (.writeMasterSlot 0x7E [0, 0, 0, 0])).repliedStatus = some .refusedState ∧
      (send staffed (.writeMasterSlot 0x7E [6, 2, 0x40, 0])).repliedStatus = some .refusedState ∧
      (send staffed (.writeMasterSlot 0x7E [6, 2, 0x41, 9])).zbi.slots.get (6 : Fin 8) = ⟨.supervisor, 0x41, 7⟩ := by decide +kernel

theorem test_writeProfile :
    (send staffed (.writeProfile 0x7E [3, 0, 0, 0x03, 0xE9])).fdu.profiles.get (3 : Fin 8) = ⟨1, 1000⟩ := by decide +kernel

theorem test_writeSensor :
    ((send staffed (.writeSensor 0x7E [9, 0, 8])).slu.sensors.get (9 : Fin 16)).health = .absent ∧
      ((send staffed (.writeSensor 0x7E [9, 0, 8])).dle.sections.get (9 : Fin 16)).shift = 7 := by decide +kernel

/-- Section 2.2's example: SL2 at LC1 with q 64 becomes 32 once its sensors are absent, and is refused before. -/
theorem test_writeLinks :
    let c : Instr := .writeLinks 0x7E [4, 6, 0, 32, 0, 32, 1, 64, 0, 32]
    let s := [8, 9, 10, 11].foldl (fun s i => send s (.writeSensor 0x7E [i, 0, 3])) staffed
    (send staffed c).repliedStatus = some .refusedBusy ∧ (send s c).repliedStatus = some .doneClamped ∧
      (send s c).slu.settings.links.get (2 : Fin 4) = ⟨.lc1, 32⟩ := by decide +kernel

/-- R140's examples: 750 is stored as 700, 150 as 200, 5000 as 2000. -/
theorem test_writePart :
    [750, 150, 5000].map clampInterval = [700, 200, 2000] ∧
      (send staffed (.writePart 0x7E [0x41, 2, 0x02, 0xEE])).llc.interval = 700 ∧
      (send staffed (.writePart 0x7E [0x41, 2, 0x02, 0xEE])).zbi.pendingOwn = some 0x41 := by decide +kernel

/-- R170: the new own address is taken up at the STOP. -/
theorem test_stop : (after (send staffed (.writePart 0x7E [0x41, 2, 0x02, 0xEE])) .stop).zbi.own = 0x41 := by decide +kernel

/-- R155, R156: bad from the SAVE SETTINGS until its completion, good after it, and loaded at the next start. -/
theorem test_save_and_load :
    let s := send staffed (.saveSettings 0x7E [])
    s.sst.store.good = false ∧ (after s .saveComplete).sst.store.check.isSome = true ∧
      (send s (.saveSettings 0x7E [])).repliedStatus = some .refusedBusy := by decide +kernel

/-- R158: with restart pending only the read of the held reply is acknowledged; the STOP applies the reset. -/
theorem test_restart :
    let s := send staffed (.restart 0x7E [])
    (after s (.addressByte (.address 0x81))).zbi.acked = true ∧ (after s (.addressByte (.address 0x80))).zbi.acked = false ∧
      (after s .stop).fsc.part = .starting := by decide +kernel

/-! ## The zone bus (chapters 9, 11) -/

theorem test_addressByte :
    (after staffed (.addressByte (.address 0x00))).zbi.acked = true ∧ (after staffed (.addressByte (.address 0x01))).zbi.acked = false ∧
      (after (after State.reset .loadComplete) (.addressByte (.address 0x80))).zbi.acked = false := by decide +kernel

/-- A NIGHT whose check byte is one too high is discarded; section 9.3's sum makes it 0x80 + 0x10 + 0x40 + 0 + 0x30 = 0. -/
theorem test_requestDiscarded :
    (after tool (.requestDiscarded 0x10 0x40 0 [] 0x31)).fsc.part = .run ∧
      (after tool (.requestDiscarded 0x10 0x40 0 [] 0x31)).zbi.transfer = .notAddressed ∧
      requestBytes 0x80 0x10 0x40 [] = [0x10, 0x40, 0, 0x30] := by decide +kernel

/-- Whole bytes written by the master. -/
def written (l : List Byte) : List Instr := l.map fun b => .addressByte (.byte b)

/-- R160, R162: the bytes of an unfinished request are acknowledged and held as they come; a STOP discards them. -/
theorem test_request_byte_by_byte :
    let s := afterAll tool (written [0x10, 0x03, 6, 1, 2])
    s.zbi.transfer = .receiving ∧ s.zbi.request = some [0x80, 0x10, 0x03, 6, 1, 2] ∧ s.zbi.acked = true ∧
      (after s .stop).zbi.request = none ∧ (after s (.addressByte (.address 0x20))).zbi.transfer = .notAddressed := by decide +kernel

/-- R162, R163: a length byte of 65 is not acknowledged; a sound check byte takes the request, as the NIGHT row does. -/
theorem test_request_ends :
    (afterAll tool (written [0x10, 0x40, 65])).zbi.transfer = .notAddressed ∧
      (afterAll tool (written [0x10, 0x40, 0, 0x30])).fsc.part = .standby ∧
      (after tool (.night 0x10 [])).fsc.part = .standby := by decide +kernel

/-- The levels that other parties drive. -/
def drives (l : List (Bool × Bool)) : List Instr := l.map fun d => .addressByte (.lines d.1 d.2)

/-- A byte on the lines: ZDA changes while ZCL is low, the most significant bit first, and the falls that end the eighth bit and the
acknowledge bit. -/
def byteLines (b : Byte) : List Instr :=
  drives ((List.range 8).flatMap (fun i => [(false, b.getLsbD (7 - i)), (true, b.getLsbD (7 - i))]) ++
    [(false, true), (true, true), (false, true)])

/-- R159, R161: a START and the bits of 80h open a request, with ZDA pulled low through the acknowledge bit and released after it. -/
theorem test_bits_of_address :
    let up := afterAll staffed (drives [(true, false)] ++ (byteLines 0x80).take 17)
    let end_ := afterAll up ((byteLines 0x80).drop 17)
    up.zbi.transfer = .receiving ∧ up.zbi.lines.data = false ∧ end_.zbi.lines.data = true ∧ end_.zbi.request = some [0x80] ∧
      end_.zbi.lines.addressing = false := by decide +kernel

/-- R159: a byte cut short by a repeated START is discarded, with the request (R162); the address byte follows. -/
theorem test_partial_byte :
    let s := afterAll tool ((byteLines 0x10).take 6 ++ drives [(false, true), (true, true), (true, false)])
    s.zbi.lines.bits = [] ∧ s.zbi.lines.addressing = true ∧ s.zbi.request = none ∧
      (afterAll s (byteLines 0x81)).zbi.transfer = .replying := by decide +kernel

/-- R163: the check byte of a NIGHT as bits: ZCL held low after its acknowledge bit, whatever others drive, until the part releases
it. -/
theorem test_executing_holds_clock :
    let s := afterAll (afterAll tool (written [0x10, 0x40, 0])) (byteLines 0x30)
    s.zbi.transfer = .executing ∧ s.fsc.part = .standby ∧ s.zbi.lines.clock = false ∧
      (afterAll s (drives [(true, true)])).zbi.lines.clock = false ∧
      (afterAll s (drives [(true, true)] ++ [.addressByte .released])).zbi.transfer = .replyReady ∧
      (afterAll s (drives [(true, true)] ++ [.addressByte .released])).zbi.lines.clock = true := by decide +kernel

/-- R164, R165: the bits of NO_REQUEST's status byte 20h, the most significant first, and the byte sent once the master acknowledges
it. -/
theorem test_bits_of_reply :
    let s := afterAll staffed ([.addressByte (.address 0x81)] ++ drives [(false, true)])
    let bit := fun i => (afterAll s (drives (List.replicate i [(true, true), (false, true)]).flatten)).zbi.lines.data
    (List.range 9).map bit = [false, false, true, false, false, false, false, false, true] ∧
      (afterAll s (drives ((List.replicate 8 [(true, true), (false, true)]).flatten ++ [(false, false), (true, false)]))).zbi.sent =
        [0x20] := by decide +kernel

/-- R166: ZCL held low by others for 25 ms, 3125 ticks, ends the transfer. -/
theorem test_clock_stretched :
    let s := after tool (.addressByte (.lines false true))
    let low := fun n => s.setLines { s.zbi.lines with low := some n }
    (low 3123).tick.zbi.transfer = .receiving ∧ (low 3124).tick.zbi.transfer = .idle := by decide +kernel

/-- R166: a whole byte whose clock rises in a stretch of ZCL low ends it; with ZCL low again after the byte a new one begins. -/
theorem test_whole_byte_ends_stretch :
    let s := after tool (.addressByte (.lines false true))
    (after (s.setLines { s.zbi.lines with low := some 3124 }) (.addressByte (.byte 0x10))).zbi.lines.low = some 0 ∧
      (after tool (.addressByte (.byte 0x10))).zbi.lines.low = none := by decide +kernel

/-- R164: with ZCL low after a whole byte of NO_REQUEST's reply, 20h 00h 5Fh, the first bit of the next is on ZDA: 0, 0, 0, then FFh. -/
theorem test_first_bit_after_whole_bytes :
    let s := afterAll staffed [.addressByte (.lines false true), .addressByte (.address 0x81)]
    s.zbi.lines.data = false ∧
      [1, 2, 3].map (fun n => (after s (.replyRead n true)).zbi.lines.data) = [false, false, true] ∧
      (after s (.replyRead 1 false)).zbi.lines.data = true := by decide +kernel

theorem test_clockLowTimeout :
    (after tool .clockLowTimeout).zbi.transfer = .idle ∧ after staffed .clockLowTimeout = staffed := by decide +kernel

/-- A NO_REQUEST reply, then FFh past its check byte (R165, R164). -/
theorem test_replyRead :
    (afterAll staffed [.addressByte (.address 0x81), .replyRead 4 true]).zbi.sent = [0x20, 0, 0x5F, 0xFF] ∧
      (afterAll staffed [.addressByte (.address 0x81), .replyRead 1 false, .replyRead 1 true]).zbi.sent = [0x20, 0xFF] := by decide +kernel

theorem test_unknown_code :
    (after tool (.requestWithUnknownCode 0x07 0x7E [])).repliedStatus = some .refusedFormat ∧
      (after tool (.requestWithUnknownCode 0x07 0x44 [])).repliedStatus = some .refusedSource := by decide +kernel

/-- READ STATUS in RUN, eight rows queued, R 500 ms, unconfigured. -/
theorem test_readStatus : replyData (send staffed (.readStatus 0x20 [])) = [1, 4, 2, 8, 0, 1, 1, 0xF4] := by decide +kernel

theorem test_readCells :
    replyData (send lit (.readCells 0x20 [0, 31, 1, 0])) = [3, 0xE8, 0xFF, 0xFF] ∧
      (send lit (.readCells 0x20 [0, 0, 17, 0])).repliedStatus = some .doneClamped := by decide +kernel

theorem test_readSections :
    replyData (send (withSection staffed 15 40000 4) (.readSections 0x20 [14, 3])) =
      [0x27, 0x10, 0x9F, 0, 0x27, 0x10, 0x24, 0] := by decide +kernel

theorem test_readSensors :
    replyData (send (withSection staffed 4 9000 0) (.readSensors 0x20 [4, 2])) = [0x40, 0, 0, 0, 0x20, 0, 0, 0] := by decide +kernel

theorem test_readRequests :
    replyData (send (withList staffed [⟨2, 3, .fixed, 700, .rect 0 1 4 7, 4, some 3600, 8⟩]) (.readRequests 0x10 [0])) =
      [1, 0x23, 0x64, 0x02, 0xBC, 0x04, 0x87, 0x0E, 0x10, 0, 8] := by decide +kernel

/-- A driver on the link applies a burst's level, and a burst cut by a SHED leaves it to the shed level (R123). -/
theorem test_driver :
    let d : Driver := ⟨2, 1, 100, 620, 8, true, .closed, 9⟩
    (d.receiveAll (Frame.burst 2 0 [⟨660, true⟩, ⟨661, true⟩]).characters).applied = 661 ∧
      (d.receiveAll ((Frame.burst 2 0 [⟨660, true⟩, ⟨661, true⟩]).characters.take 7 ++ (Frame.shed (.const 500 3)).characters)).applied =
        500 := by decide

end Sys2Proof.Tests
end

