-- ==== Sys2Proof/Tests/Witnesses.lean ====
section
/-! SUPPORT. For every obligation with hypotheses a witness: a concrete state and operands that meet them together, and for a
statement of several clauses one for each clause, at the boundary values of its ranges. -/

namespace Sys2Proof.Tests

open Sys2Proof.Machine Sys2Proof.Machine.State

set_option Elab.async false

/-! ## Helpers -/

/-- Every condition of `Takes`, as one Boolean. -/
def takesB (s : State) (k : Request) (a : Byte) (p : List Byte) (n : Fin 8) : Bool :=
  decide (s.fsc.resetHeld = false ∧ s.zbi.transfer = .receiving ∧ s.zbi.address = some (writeAddress s.zbi.own) ∧
    s.zbi.request = some [writeAddress s.zbi.own] ∧ writeAddress s.zbi.own ≠ Config.floorCall ∧
    p.length ≤ Config.maxPayload ∧ s.senderSlot a = some n ∧ k.admits p = true ∧
    k.permits (s.zbi.slots.get n).role = true)

theorem takes_of {s : State} {k : Request} {a : Byte} {p : List Byte} {n : Fin 8} (h : takesB s k a p n = true) :
    s.Takes k a p n := by
  obtain ⟨h1, h2, h3, h4, h5, h6, h7, h8, h9⟩ := of_decide_eq_true h
  exact ⟨h1, h2, h3, h4, h5, h6, h7, h8, h9⟩

/-- Payloads that are taken and meet a clause's condition. -/
def Meets (s : State) (k : Request) (a : Byte) (n : Fin 8) (P : List Byte → Prop) (ps : List (List Byte)) : Prop :=
  ∀ p ∈ ps, s.Takes k a p n ∧ P p

theorem meets_of {s : State} {k : Request} {a : Byte} {n : Fin 8} {P : List Byte → Prop} [DecidablePred P]
    {ps : List (List Byte)} (h : (ps.all fun p => takesB s k a p n && decide (P p)) = true) : Meets s k a n P ps := by
  intro p hp
  have := List.all_eq_true.mp h p hp
  simp only [Bool.and_eq_true, decide_eq_true_eq] at this
  exact ⟨takes_of this.1, this.2⟩

/-- Every command answers a next state from here. -/
theorem next_of (c : Instr) (s : State) : (∃ t, exec c s = .next t) := by
  cases h : exec c s with
  | next t => exact ⟨t, rfl⟩
  | fault r => cases r
  | refused r => cases c <;> cases h

/-! ## The step, resets and invariants -/

theorem witness_StepTakesFrontCommand : (running.setPending [.stop, .fadeEvent]).pending = .stop :: [.fadeEvent] := rfl

theorem witness_IdleStepIsOneTick :
    running.pending = [] ∧ running.fsc.resetHeld = false ∧ (after running .rstnLow).pending = [] ∧
      (after running .rstnLow).fsc.resetHeld = true ∧ (∃ t, exec .fadeEvent running = .next t) ∧
      (let s := running.setLines { running.zbi.lines with hold := some 249, low := some 3124 }
       s.advance.zbi.lines.hold = some (2 * 125) ∧ s.advance.zbi.lines.low = some (25 * 125)) ∧
      (∀ n ∈ [123, 124, 125],
        ((stood running false n).advance.fsc.steady = 125 ↔ n ≠ 123) ∧ (stood running false n).advance.fsc.lineAsserted = false) := by
  constructorm* _ ∧ _ <;> first | exact next_of _ _ | decide +kernel

/-- Every hypothesis of the invariant statements about a step: the queue is empty, so the step is a tick. -/
theorem step_next {s : State} (h : s.pending = []) : step s = .next s.tick := by simp [step, h]

theorem running_startUp : running.StartUp := by constructor <;> decide +kernel

theorem witness_StepKeepsStartUp : running.StartUp ∧ ∃ t, step running = .next t :=
  ⟨running_startUp, _, step_next (by decide +kernel)⟩

theorem staffed_masters : staffed.Masters := by constructor <;> decide +kernel

theorem staffed_startUp : staffed.StartUp :=
  ⟨running_startUp.starting, running_startUp.off, running_startUp.held, running_startUp.fadeTimer, running_startUp.reInitTimer,
    running_startUp.listTimer, running_startUp.sectionTimer, running_startUp.polling, running_startUp.silent,
    running_startUp.initGroup, running_startUp.receiving, running_startUp.holding, running_startUp.stretch, running_startUp.deaf,
    running_startUp.noPending, running_startUp.noEntries,
    running_startUp.noRows, running_startUp.dark⟩

theorem witness_StepKeepsMasters : staffed.StartUp ∧ staffed.Masters ∧ ∃ t, step staffed = .next t :=
  ⟨staffed_startUp, staffed_masters, _, step_next (by decide +kernel)⟩

/-- A list whose entries all cover every cell, on the factory grid, with every record resolved from it. -/
theorem listed_of {s : State} {l : List Entry} (hr : l.length ≤ Config.listCapacity)
    (hk : l.Pairwise fun e f => e.sameKey f = false)
    (ht : ∀ e ∈ l, (s.zbi.slots.get e.slot).role ≠ .empty ∧ e.priority = (s.zbi.slots.get e.slot).priority)
    (hs : ∀ e ∈ l, e.selector = .all ∧ e.coverage = 256) (hc : s.ct.coverage .all = 256) : (withList s l).Listed where
  room := hr
  keys := hk
  tied := ht
  counts := fun e he => by rw [(hs e he).2, (hs e he).1]; exact hc.symm
  records := fun c => Table.get_ofFn _ c rfl

theorem staffed_coverage : staffed.ct.coverage .all = 256 := by decide +kernel

theorem full_listed : (withList staffed fullList).Listed :=
  listed_of (by decide +kernel) (by decide +kernel) (by decide +kernel) (by decide +kernel) staffed_coverage

theorem witness_StepKeepsListed :
    (withList staffed fullList).Listed ∧ ∃ t, step (withList staffed fullList) = .next t :=
  ⟨full_listed, _, step_next (by decide +kernel)⟩

theorem running_fitted : running.Fitted := by constructor <;> decide +kernel

/-- The grid with cell 7 absent. -/
def gapped : State := withCell staffed 7 { factoryCell 7 with present := false }

theorem gapped_fitted : gapped.Fitted := by constructor <;> decide +kernel

theorem witness_StepKeepsFitted : gapped.Fitted ∧ gapped.ct.present 7 = false ∧ ∃ t, step gapped = .next t :=
  ⟨gapped_fitted, by decide +kernel, _, step_next (by decide +kernel)⟩

theorem witness_StepKeepsSeeded :
    (withSection running 6 40000 4).Seeded ∧ (withSection running 6 40000 4).Sensed ∧
      ∃ t, step (withSection running 6 40000 4) = .next t :=
  ⟨by unfold State.Seeded; decide +kernel, by unfold State.Sensed; decide +kernel, _, step_next (by decide +kernel)⟩

theorem witness_StepKeepsDithered :
    (dithering 15).Dithered ∧ (dithering 15).fsc.part = .run ∧ ∃ t, step (dithering 15) = .next t :=
  ⟨by unfold State.Dithered; decide +kernel, by decide +kernel, _, step_next (by decide +kernel)⟩

/-- The lit part under load shed: every fade level clamped to 500. -/
def shedding : State := after lit .shednAsserted

theorem shedding_shed : shedding.Shed := by constructor <;> decide +kernel

theorem shedding_fitted : shedding.Fitted := by constructor <;> decide +kernel

theorem shedding_startUp : shedding.StartUp := by constructor <;> decide +kernel

theorem witness_StepKeepsShed :
    shedding.StartUp ∧ shedding.Fitted ∧ shedding.Shed ∧ shedding.fsc.latch = true ∧ ∃ t, step shedding = .next t :=
  ⟨shedding_startUp, shedding_fitted, shedding_shed, by decide +kernel, _, step_next (by decide +kernel)⟩

theorem running_ranges : running.Ranges where
  ct := by constructor <;> decide +kernel
  sensors := by constructor <;> decide +kernel
  list := by
    have h : ∀ c : Fin 256, (running.rlu.resolved.get c).winner = .base ∧ within 1000 (running.rlu.resolved.get c).cap := by
      decide +kernel
    exact ⟨by decide +kernel, fun c => ⟨(h c).2, by rw [(h c).1]; trivial⟩⟩
  levels := by
    have h : running.llc.flight = none := by decide +kernel
    constructor
    case flight => intro f hf; rw [h] at hf; cases hf
    all_goals decide +kernel

theorem witness_Ranges : running.Ranges ∧ ∃ t, step running = .next t := ⟨running_ranges, _, step_next (by decide +kernel)⟩

theorem witness_StepKeepsRested :
    running.Ranges ∧ running.Rested ∧ running.llc.state = .run ∧ running.llc.flight = none ∧ ∃ t, step running = .next t :=
  ⟨running_ranges, by unfold State.Rested; decide +kernel, by decide +kernel, by decide +kernel, _, step_next (by decide +kernel)⟩

theorem witness_ResetEvents :
    (after running .rstnLow).fsc.resetHeld = true ∧ Instr.stop ≠ .powerOn ∧ Instr.stop ≠ .rstnLow ∧ Instr.stop ≠ .rstnRelease ∧
      (∀ zcl zda, Instr.stop ≠ .addressByte (.lines zcl zda)) ∧ (∀ high, Instr.stop ≠ .addressByte (.shedn high)) ∧
      (∀ l, Instr.stop ≠ .pollTimer l .falls) ∧ ∀ l, Instr.stop ≠ .pollTimer l .rises := by
  decide +kernel

theorem witness_LoadCompletes :
    State.reset.llc.state = .off ∧ State.reset.fsc.resetHeld = false ∧ State.reset.sst.loading.isSome = true := by decide

/-! ## The zone bus -/

/-- The part with RESTART taken and its reply held. -/
def restarting : State := send staffed (.restart 0x7E [])

/-- The lines with ZCL high and some bits of a byte sampled. -/
def sampled (s : State) (addressing : Bool) (bits : List Bool) : State :=
  s.setLines { s.zbi.lines with zcl := true, inTransfer := true, addressing, bits }

/-- The eight bits of a byte, the most significant first. -/
def bitsOf (b : Byte) : List Bool := (List.range 8).map fun i => b.getLsbD (7 - i)

/-- Whole address bytes in each part state; a START in IDLE and in RECEIVING; the first and the eighth bit; and the two falls after
it. -/
theorem witness_AddressByteAnswered :
    (staffed.fsc.resetHeld = false ∧ staffed.zbi.transfer ≠ .executing ∧ staffed.fsc.part ≠ .starting ∧
      staffed.fsc.restartPending = false ∧ (0x80 : Byte) = writeAddress staffed.zbi.own ∧ (0x81 : Byte) = readAddress staffed.zbi.own) ∧
    (restarting.fsc.restartPending = true ∧ restarting.zbi.reply.isSome = true ∧ restarting.zbi.transfer = .replyReady) ∧
    (State.reset.fsc.part = .starting ∧ State.reset.zbi.transfer ≠ .executing) ∧
    (∀ s ∈ [staffed, tool], s.fsc.resetHeld = false ∧ s.zbi.transfer ≠ .executing ∧ s.zbi.lines.hold = none ∧
      s.zbi.lines.zcl = true ∧ s.zbi.lines.zda = true ∧ s.zbi.lines.pullsZda = false) ∧ tool.zbi.transfer = .receiving ∧
    (∀ n ∈ [0, 7],
      let s := after (sampled staffed true ((bitsOf 0x80).take n)) (.addressByte (.lines false true))
      s.zbi.lines.zcl = false ∧ s.zbi.lines.bits.length = n ∧ s.zbi.lines.hold = none ∧ s.zbi.transfer ≠ .executing) ∧
    (let s := sampled staffed true (bitsOf 0x80)
     s.zbi.lines.zcl = true ∧ s.zbi.lines.addressing = true ∧ s.zbi.lines.bits = bitsOf 0x80 ∧ s.zbi.lines.hold = none ∧
       s.zbi.transfer ≠ .executing) ∧
    (let s := sampled tool true (bitsOf 0x80 ++ [false])
     s.zbi.lines.bits.length = 9 ∧ s.zbi.transfer ≠ .replying ∧ s.zbi.transfer ≠ .executing ∧ s.zbi.lines.hold = none) := by
  decide +kernel

/-- The part in RUN with some bytes of a request received. -/
def received (bytes : List Byte) : State := tool.keepByte (0x80 :: bytes)

/-- Requests with 1 to 4 bytes received and a payload byte still to come, and check bytes sound and one too high; lengths 64 and 65;
the check byte of a NIGHT as bits, the hold after it, and its release. -/
theorem witness_UnsoundDiscardedUnknownRefused :
    (∀ bytes ∈ [[], [0x10], [0x10, 0x40], [0x10, 0x40, 0], [0x10, 0x42, 1], [0x10, 0x42, 1, 9]],
      (received bytes).fsc.resetHeld = false ∧ (received bytes).zbi.transfer = .receiving ∧
        (received bytes).zbi.request = some (0x80 :: bytes) ∧ (received bytes).zbi.address = some 0x80) ∧
    byteSum ([0x80, 0x10, 0x40, 0] ++ [0x30]) = 0 ∧ byteSum ([0x80, 0x10, 0x40, 0] ++ [0x31]) ≠ 0 ∧ ¬64 < (64 : Byte).toNat ∧
    asRequest (.night 0x10 []) = some (.night, 0x10, []) ∧ Request.night.code = 0x40 ∧
    (tool.fsc.resetHeld = false ∧ tool.zbi.transfer = .receiving ∧ tool.zbi.address = some 0x80 ∧ tool.zbi.request = some [0x80] ∧
      64 < (65 : Byte).toNat ∧ (List.replicate 64 (0 : Byte)).length = (64 : Byte).toNat ∧
      byteSum (0x80 :: 0x10 :: 0x40 :: 64 :: (List.replicate 64 0 ++ [0x31])) ≠ 0 ∧
      (0x44 : Byte) ∉ catalogueCodes ∧ tool.zbi.address = some (writeAddress tool.zbi.own) ∧ writeAddress tool.zbi.own ≠ 0x00 ∧
      (∃ n : Fin 8, (tool.zbi.slots.get n).role ≠ .empty ∧ (tool.zbi.slots.get n).address = 0x7E) ∧
      ¬∃ n : Fin 8, (tool.zbi.slots.get n).role ≠ .empty ∧ (tool.zbi.slots.get n).address = 0xFE) ∧
    (∀ b ∈ [(0x30 : Byte), 0x31],
      let s := sampled (received [0x10, 0x40, 0]) false (bitsOf b)
      s.fsc.resetHeld = false ∧ s.zbi.lines.hold = none ∧ s.zbi.lines.zcl = true ∧ s.zbi.transfer = .receiving ∧
        s.zbi.lines.addressing = false ∧ s.zbi.lines.bits = bitsOf b ∧ s.zbi.request = some [0x80, 0x10, 0x40, 0]) ∧
    (let s := afterAll (sampled (received [0x10, 0x40, 0]) false (bitsOf 0x30)) (drives [(false, true), (true, true)])
     let t := after s (.addressByte (.lines false true))
     s.zbi.transfer = .executing ∧ s.zbi.lines.bits.length = 9 ∧ s.zbi.lines.hold = none ∧ s.zbi.lines.zcl = true ∧
       s.fsc.resetHeld = false ∧ t.zbi.transfer = .executing ∧ t.zbi.lines.hold = some 0 ∧ t.zbi.lines.zcl = false ∧
       t.fsc.resetHeld = false) := by
  refine ⟨?_, ?_, ?_, ?_, ?_, ?_, ?_, ?_, ?_⟩ <;> decide +kernel

theorem tool_masters : tool.Masters := by constructor <;> decide +kernel

theorem witness_ChecksRefuseInOrder :
    (asRequest (.night 0x20 [1]) = some (.night, 0x20, [1]) ∧ tool.fsc.resetHeld = false ∧ tool.zbi.transfer = .receiving ∧
      tool.zbi.address = some (writeAddress tool.zbi.own) ∧ tool.zbi.request = some [writeAddress tool.zbi.own] ∧
      writeAddress tool.zbi.own ≠ 0x00 ∧
      (∀ n : Fin 8, (tool.zbi.slots.get n).role ≠ .empty → (tool.zbi.slots.get n).address ≠ 0x23) ∧
      (tool.zbi.slots.get (2 : Fin 8)).role ≠ .empty ∧ (tool.zbi.slots.get (2 : Fin 8)).address = 0x20 ∧
      Request.night.admits [1] = false ∧ Request.night.admits [] = true ∧ Request.night.permits .occupant = false) ∧
    tool.Masters :=
  ⟨by decide +kernel, tool_masters⟩

/-- The part in RUN, receiving on the floor call. -/
def floor : State := after staffed (.addressByte (.address 0x00))

theorem witness_FloorCallActsInSilence :
    (floor.fsc.resetHeld = false ∧ floor.zbi.transfer = .receiving ∧ floor.zbi.address = some 0x00 ∧ floor.zbi.request = some [0x00] ∧
      writeAddress floor.zbi.own ≠ 0x00 ∧ Request.readStatus.onFloor [] = false ∧ floor.senderSlot 0x23 = none ∧
      Request.night.admits [1] = false ∧ floor.senderSlot 0x20 = some 2 ∧ Request.night.permits .occupant = false) ∧
    floor.TakesOnFloor .night 0x10 [] 1 ∧ floor.TakesOnFloor .setCap 0x10 (setPayload 0 600 0 0 []) 1 :=
  ⟨by decide +kernel,
    (by constructor <;> decide +kernel),
    (by constructor <;> decide +kernel)⟩

/-- A reply held, past its address byte; its first and eighth bit, and the two falls and the rise about its acknowledge bit. -/
theorem witness_ReplyReadSendsReply :
    let s := after staffed (.addressByte (.address 0x81))
    let high := fun n => sampled s false (List.replicate n true)
    let low := fun n => (high n).setLines { (high n).zbi.lines with zcl := false }
    (s.fsc.resetHeld = false ∧ s.zbi.transfer = .replying ∧ s.zbi.reply = some ⟨.noRequest, [], 0x5F⟩ ∧ 0 < 1) ∧
    (∀ n ∈ [0, 7, 8, 9],
      let t := high n
      t.fsc.resetHeld = false ∧ t.zbi.transfer = .replying ∧ t.zbi.reply = some ⟨.noRequest, [], 0x5F⟩ ∧ t.zbi.lines.hold = none ∧
        t.zbi.lines.zcl = true ∧ t.zbi.lines.addressing = false ∧ t.zbi.lines.bits.length = n) ∧
    ((low 8).fsc.resetHeld = false ∧ (low 8).zbi.transfer = .replying ∧ (low 8).zbi.reply = some ⟨.noRequest, [], 0x5F⟩ ∧
      (low 8).zbi.lines.hold = none ∧ (low 8).zbi.lines.zcl = false ∧ (low 8).zbi.lines.addressing = false ∧
      (low 8).zbi.lines.bits.length = 8) := by decide +kernel

theorem witness_TransferEndsAtStop :
    (tool.fsc.resetHeld = false ∧ tool.zbi.transfer ≠ .executing ∧ tool.fsc.restartPending = false ∧ tool.zbi.transfer ≠ .idle) ∧
    (staffed.zbi.transfer = .idle ∧ staffed.fsc.restartPending = false) ∧
    (restarting.fsc.resetHeld = false ∧ restarting.fsc.restartPending = true ∧ restarting.zbi.transfer ≠ .executing ∧
      restarting.zbi.transfer ≠ .idle) ∧
    (let s := afterAll (received [0x10, 0x40, 0]) (byteLines 0x30)
     s.fsc.resetHeld = false ∧ s.zbi.transfer = .executing ∧ s.zbi.lines.hold.isSome = true) ∧
    (let s := sampled tool false []
     let t := s.setLines { s.zbi.lines with zda := false }
     t.fsc.resetHeld = false ∧ t.zbi.lines.hold = none ∧ t.zbi.lines.zcl = true ∧ t.zbi.lines.zda = false ∧
       t.zbi.lines.pullsZda = false ∧ t.zbi.lines.low = none) := by decide +kernel

/-! ## The request list -/

/-- The part with the full list, receiving. -/
def crowded : State := opened (withList staffed fullList)

theorem crowded_listed : crowded.Listed := by
  have h := full_listed
  exact ⟨h.room, h.keys, h.tied, h.counts, h.records⟩

theorem tool_listed : tool.Listed := by constructor <;> decide +kernel

/-- Tags 15 and 16, form 4, a RECT out of order, a vacant mask; and a place by each of the four ways. -/
theorem witness_SetRequestRefusedOrPlaced :
    Meets tool .setTarget 0x7E 0 (fun p => 15 < byteAt p 0 ∨ parseSelector (byteAt p 5) (p.drop 6) = none)
        [setPayload 16 450 0 0 [], setPayload 15 450 0 4 []] ∧
      Meets tool .setTarget 0x7E 0 (fun p => parseSelector (byteAt p 5) (p.drop 6) = some (.rect 1 0 0 0))
        [setPayload 15 450 0 2 [1, 0, 0, 0]] ∧ (Selector.rect 1 0 0 0).malformed = true ∧
      Meets tool .setTarget 0x7E 0 (fun p => parseSelector (byteAt p 5) (p.drop 6) = some (.mask 0)) [setPayload 15 450 0 1 [0]] ∧
      (∀ c : Fin 256, tool.ct.covers (.mask 0) c = false) ∧
      crowded.Listed ∧ tool.Listed ∧ (∃ c : Fin 256, crowded.ct.covers .all c = true) ∧ tool.rlu.list.length = 0 ∧
      Meets tool .setTarget 0x7E 0 (fun p => byteAt p 0 ≤ 15 ∧ parseSelector (byteAt p 5) (p.drop 6) = some .all)
        [setPayload 15 2001 0 0 []] ∧
      Meets crowded .setTarget 0x22 4 (fun p => byteAt p 0 ≤ 15 ∧ parseSelector (byteAt p 5) (p.drop 6) = some .all)
        [setPayload 0 2000 0xFFFF 0 []] ∧
      crowded.rlu.list.length = 48 ∧ (∃ old ∈ crowded.rlu.list, old.slot = 1 ∧ old.tag = 0) ∧
      (∀ x ∈ crowded.rlu.list, x.slot ≠ 4) ∧ evictionCandidate 3 crowded.rlu.list = some (entry 1 10 .target 500 2) ∧
      evictionCandidate 2 crowded.rlu.list = none := by
  constructorm* _ ∧ _ <;> first | exact meets_of (by decide +kernel) | exact crowded_listed | exact tool_listed | decide +kernel

/-- The part in STANDBY, receiving. -/
def resting : State := opened (send staffed (.night 0x10 []))

theorem witness_OccupantRequestWakesPart :
    Meets resting .setFixed 0x20 2 (fun _ => resting.fsc.part = .standby ∧ (resting.zbi.slots.get (2 : Fin 8)).role = .occupant)
        [setPayload 3 700 0 0 []] ∧
      (after resting (setCommand .fixed 0x20 (setPayload 3 700 0 0 []))).repliedStatus = some .done ∧
      Meets resting .setCap 0x10 1 (fun _ => (Kind.cap = .cap)) [setPayload 3 700 0 0 []] ∧
      (∃ t, exec (setCommand .cap 0x10 (setPayload 3 700 0 0 [])) resting = .next t) :=
  ⟨meets_of (by decide +kernel), by decide +kernel, meets_of (by decide +kernel), next_of _ _⟩

theorem witness_EvictionTakesOldestOfLowest :
    evictionCandidate 3 fullList = some (entry 1 10 .target 500 2) ∧ evictionCandidate 2 fullList = none := by decide +kernel

theorem witness_ResolutionPicksWinnerAndCap :
    let l := [entry 1 0 .target 450 2, entry 2 0 .fixed 700 4, entry 3 0 .target 650 4, entry 1 1 .cap 600 2]
    (resolve running.ct l 0).winner = .target 3 0 650 ∧ (resolve running.ct l 0).cap = some 600 ∧
      l = [entry 1 0 .target 450 2, entry 2 0 .fixed 700 4] ++ entry 3 0 .target 650 4 :: [entry 1 1 .cap 600 2] ∧
      running.ct.covers .all 0 = true ∧ gapped.ct.present 7 = false := by decide +kernel

theorem witness_ReleasesRemoveEntries :
    Meets crowded .release 0x10 1 (fun p => 15 < byteAt p 0) [[16]] ∧ Meets crowded .release 0x10 1 (fun p => byteAt p 0 ≤ 15) [[15]] ∧
      Meets crowded .releaseOwn 0x10 1 (fun _ => True) [[]] ∧ Meets crowded .releaseSlot 0x10 1 (fun p => 7 < byteAt p 0) [[8]] ∧
      Meets crowded .releaseSlot 0x10 1 (fun p => byteAt p 0 ≤ 7) [[7]] ∧ crowded.Listed := by
  constructorm* _ ∧ _ <;> first | exact meets_of (by decide +kernel) | exact crowded_listed

theorem witness_ListSecondCountsHolds :
    running.fsc.resetHeld = false ∧ running.rlu.timer.isSome = true ∧ ListRanges running.rlu :=
  ⟨by decide +kernel, by decide +kernel, running_ranges.list⟩

/-! ## Calibration -/

theorem witness_FieldsAreClamped : (255 : Nat) ≤ 255 := le_refl _

/-- Row 7 and 8, start bay 31 and 32, counts 0, 1, 32 and 33, and every field code with the first that is none. -/
theorem witness_CellFieldWritten :
    Meets tool .writeCellField 0x7E 0
        (fun p => 7 < byteAt p 0 ∨ 31 < byteAt p 1 ∨ byteAt p 2 = 0 ∨ 32 < byteAt p 2 ∨ 6 < byteAt p 3)
        [[8, 0, 1, 0, 0], [0, 32, 1, 0, 0], [0, 0, 0, 0, 0], [0, 0, 33, 0, 0], [0, 0, 1, 7, 0]] ∧
      Meets tool .writeCellField 0x7E 0
        (fun p => byteAt p 0 ≤ 7 ∧ byteAt p 1 ≤ 31 ∧ 1 ≤ byteAt p 2 ∧ byteAt p 2 ≤ 32 ∧ (Field.ofCode (byteAt p 3)).isSome = true)
        [[7, 31, 1, 0, 1], [0, 0, 32, 1, 0, 0], [7, 31, 32, 2, 0, 0], [0, 0, 1, 3, 0, 0], [0, 0, 1, 4, 8], [0, 0, 1, 5, 255],
          [0, 0, 1, 6, 16], [0, 0, 32, 1] ++ List.replicate 60 1, [0, 0, 32, 6] ++ List.replicate 60 1] :=
  ⟨meets_of (by decide +kernel), meets_of (by decide +kernel)⟩

/-- The part with cell 7 absent, receiving. -/
def gappedTool : State := opened gapped

theorem gappedTool_fitted : gappedTool.Fitted := by
  have h := gapped_fitted
  exact ⟨h.levels, h.taken, h.records, h.held, h.ages, h.queued, h.once⟩

theorem gappedTool_listed : gappedTool.Listed := by constructor <;> decide +kernel

/-- Cell 7 made present, and cell 6 made absent: field code 0; class bytes, code 5; section, code 6. -/
theorem witness_PresenceChangesAtOnce :
    Meets gappedTool .writeCellField 0x7E 0 (fun p => byteAt p 3 = 0 ∨ byteAt p 3 = 5 ∨ byteAt p 3 = 6)
        [[0, 7, 1, 0, 1], [0, 6, 1, 0, 0], [0, 0, 32, 5, 3], [0, 0, 32, 6, 3]] ∧
      gappedTool.Fitted ∧ gappedTool.Listed ∧ gappedTool.llc.state = .run ∧ gappedTool.ct.present 7 = false ∧
      (after gappedTool (.writeCellField 0x7E [0, 7, 1, 0, 1])).ct.present 7 = true ∧
      (after gappedTool (.writeCellField 0x7E [0, 6, 1, 0, 0])).ct.present 6 = false := by
  constructorm* _ ∧ _ <;> first | exact meets_of (by decide +kernel) | exact gappedTool_fitted | exact gappedTool_listed | decide +kernel

/-- A row frozen before its write, and one LIVE. -/
theorem witness_FreezeCapturesHeldBases :
    let frozen := opened (send staffed (.writeRow 0x7E [5, 0, 30, 1, 0xF4]))
    Meets tool .writeRow 0x7E 0 (fun p => tool.ct.rowFrozen 5 = false ∧ byteAt p 0 = 5) [[5, 0, 30, 1, 0xF4]] ∧
      Meets frozen .writeCellField 0x7E 0 (fun p => frozen.ct.rowFrozen 5 = true ∧ byteAt p 0 = 5) [[5, 0, 1, 4, 3]] ∧
      (after tool (.writeRow 0x7E [5, 0, 30, 1, 0xF4])).ct.rowFrozen 5 = true ∧
      ((after frozen (.writeCellField 0x7E [5, 0, 1, 4, 3])).ct.cells.get (160 : Fin 256)).profile = 3 ∧
      (frozen.ct.cells.get (160 : Fin 256)).profile = 0 ∧ frozen.ct.present 160 = true := by
  constructorm* _ ∧ _ <;> first | exact meets_of (by decide +kernel) | decide +kernel

theorem witness_RowWritten :
    Meets tool .writeRow 0x7E 0 (fun p => 7 < byteAt p 0) [[8, 0, 0, 0, 0]] ∧
      Meets tool .writeRow 0x7E 0 (fun p => byteAt p 0 ≤ 7) [[7, 0x27, 0x10, 0x03, 0xE8], [7, 0x27, 0x11, 0x03, 0xE9]] ∧
      Meets (opened shedding) .writeRow 0x7E 0
        (fun p => (opened shedding).fsc.latch = true ∧ halfAt p 3 ≠ ((opened shedding).ct.rows.get (7 : Fin 8)).shedLevel)
        [[7, 0, 0, 0, 0]] :=
  ⟨meets_of (by decide +kernel), meets_of (by decide +kernel), meets_of (by decide +kernel)⟩

theorem witness_RowsThaw :
    Meets tool .calApply 0x7E 0 (fun p => 7 < byteAt p 0 ∧ byteAt p 0 ≠ 255) [[8], [0xFE]] ∧
      Meets tool .calApply 0x7E 0 (fun p => byteAt p 0 ≤ 7 ∨ byteAt p 0 = 255) [[0], [7], [0xFF]] ∧ staffed.fsc.resetHeld = false :=
  ⟨meets_of (by decide +kernel), meets_of (by decide +kernel), by decide +kernel⟩

theorem witness_ShortfallCleared :
    Meets tool .clearShortfall 0x10 1 (fun p => 7 < byteAt p 0 ∧ byteAt p 0 ≠ 255) [[8], [0xFE]] ∧
      Meets tool .clearShortfall 0x10 1 (fun p => byteAt p 0 ≤ 7 ∨ byteAt p 0 = 255) [[0], [7], [0xFF]] :=
  ⟨meets_of (by decide +kernel), meets_of (by decide +kernel)⟩

/-! ## Daylight and sensors -/

theorem witness_BlindReportsKept :
    Meets tool .blindStep 0x30 5 (fun p => halfAt p 0 = 0) [[0, 0, 15, 0, 0]] ∧
      Meets tool .blindStep 0x30 5 (fun p => halfAt p 0 ≠ 0) [[0x80, 0x01, 15, 0, 0], [0xFF, 0xFF, 16, 0xFF, 0xFF]] ∧
      Meets tool .writeBlindTable 0x7E 0 (fun _ => True) [List.replicate 33 0, List.replicate 33 255] ∧
      running.fsc.resetHeld = false ∧ running.dle.timer.isSome = true ∧ running.SensorRanges := by
  constructorm* _ ∧ _ <;> first | exact meets_of (by decide +kernel) | exact running_ranges.sensors | decide +kernel

/-- Section 5 usable: 5 reads OWN, 6 LOWER, 4 UPPER, 7 DARK; the same beside the ends of the façade. -/
theorem witness_SubstitutionByNeighbours :
    let s := withSection (withSection (withSection running 5 7000 0) 0 100 0) 15 200 0
    let good := fun j : Fin 16 => (s.slu.sensors.get j).health = .fresh ∨ (s.slu.sensors.get j).health = .stale
    (good 5 ∧ good 0 ∧ good 15 ∧ ¬good 6 ∧ ¬good 4 ∧ ¬good 7 ∧ ¬good 8 ∧ ¬good 3 ∧ ¬good 14 ∧ ¬good 1 ∧ ¬good 13) ∧ s.Seeded ∧ s.Sensed :=
  ⟨by decide +kernel, by unfold State.Seeded; decide +kernel, by unfold State.Sensed; decide +kernel⟩

theorem witness_FilterStepTruncatesTowardSample :
    (Section.unseeded 3).filtered = none ∧ (⟨some 17995, 3, none, none⟩ : Section).filtered = some 17995 ∧ 17995 < 18000 ∧
      12000 < 17995 ∧ 17995 ≤ 262080 := by decide

/-- The part with a poll of sensor 4 in flight and its record in a health state with counts. -/
def polling (health : Health) (errors run : Nat) : State :=
  let s := after running (.pollTimer 1 .expires)
  s.setSlu { s.slu with sensors := s.slu.sensors.set (4 : Fin 16) { Sensor.cleared true with health, errors, run } }

/-- A saturated reading of 4095 in range 3, at both limits, for each health state, and run counts 2 and 3 of RECOVERING. -/
theorem witness_ValidReplyMovesHealth :
    let c1 := sentChar 0xFD 33
    let c2 := sentChar 0xFF 33
    let c3 := sentChar 0x04
    (∀ x ∈ [(Health.waiting, 0), (.fresh, 0), (.stale, 0), (.failed, 0), (.recovering, 2), (.recovering, 3)],
      (polling x.1 7 x.2).fsc.resetHeld = false ∧ (polling x.1 7 x.2).slu.inFlight.get (1 : Fin 4) = some ⟨0, 0, none⟩ ∧
        ((polling x.1 7 x.2).slu.sensors.get (sensorAt 1 0)).health = x.1 ∧
        ((polling x.1 7 x.2).slu.sensors.get (sensorAt 1 0)).run = x.2) ∧
      (let k := running.slu.settings.links.get (1 : Fin 4)
       let bit := 625 * (2 ^ selectedN running.slu.settings.n0 running.slu.settings.n1 k.select * k.divisor)
       24576 * 572 < (11 + 3 * 11) * bit ∧ 24576 * (1359 - 500) < 6 * 11 * bit ∧ (polled 572 none).slu.settings = running.slu.settings) ∧
      (c1.gap ≤ 3 * 11 ∧ 3 * 11 + c2.gap + c3.gap ≤ 6 * 11) ∧ (c1.stop = true ∧ c2.stop = true ∧ c3.stop = true) ∧
      (c1.parity = evenParity c1.data ∧ c2.parity = evenParity c2.data ∧ c3.parity = evenParity c3.data) ∧
      (0 + c1.data.toNat + c2.data.toNat + c3.data.toNat) % 256 = 0 ∧ c1.data.toNat % 4 = 1 ∧ (sentChar 0xFC).data.toNat % 4 = 0 := by
  decide +kernel

/-- Each kind of error, each limit passed; six and seven errors before it; RECOVERING; and no poll in flight. -/
theorem witness_ErrorOutcomesCounted :
    running.slu.inFlight.get (1 : Fin 4) = none ∧
      (∀ x ∈ [(Health.waiting, 6), (.fresh, 7), (.stale, 7), (.failed, 8), (.recovering, 0)],
        (polling x.1 x.2 1).slu.inFlight.get (1 : Fin 4) = some ⟨0, 0, none⟩ ∧ (polling x.1 x.2 1).fsc.resetHeld = false ∧
          ((polling x.1 x.2 1).slu.sensors.get (sensorAt 1 0)).errors = x.2) ∧
      (let k := running.slu.settings.links.get (1 : Fin 4)
       let bit := 625 * (2 ^ selectedN running.slu.settings.n0 running.slu.settings.n1 k.select * k.divisor)
       ¬24576 * 573 < (11 + 3 * 11) * bit ∧ ¬24576 * (1360 - 500) < 6 * 11 * bit ∧ (polled 573 none).slu.settings = running.slu.settings) ∧
      ¬(sentChar 0x88 (331 / 10)).gap ≤ 3 * 11 ∧ ¬3 * 11 + (sentChar 0xEE (163 / 10)).gap + (sentChar 0x8A (168 / 10)).gap ≤ 6 * 11 ∧
      ({ sentChar 0 with stop := false } : RxChar).stop = false ∧
      ({ sentChar 0 with parity := true } : RxChar).parity ≠ evenParity 0 ∧ (0 + 0x88 + 0xEE + 0x8B) % 256 ≠ 0 ∧
      (0 + 0x02 + 0 + 0xFE) % 256 = 0 ∧ 2 ≤ 0x02 % 4 := by decide +kernel

/-- Link 1 at 9600 bit/s: a character of 130 and of 131 ticks, a line low for 143 and for 144, a poll sent for 143 and 144 ticks. -/
theorem witness_SensorTimersRunOut :
    (∀ h ∈ [Health.absent, .waiting, .fresh, .stale, .failed, .recovering],
      (polling h 0 0).fsc.resetHeld = false ∧ (polling h 0 0).slu.polling = true ∧
        ((polling h 0 0).slu.sensors.get (4 : Fin 16)).health = h) ∧
      resting.slu.polling = false ∧ (running.slu.timers.get (3 : Fin 4)).isSome = true ∧ running.slu.lastPolled.get (3 : Fin 4) = none ∧
      (running.slu.sensors.get (sensorAt 3 (Fin.ofNat 4 0))).present = true ∧
      ((send staffed (.writeSensor 0x7E [12, 0, 3])).slu.sensors.get (sensorAt 3 (Fin.ofNat 4 0))).present = false ∧
      ((send staffed (.writeSensor 0x7E [12, 0, 3])).slu.sensors.get (sensorAt 3 (Fin.ofNat 4 1))).present = true ∧
      (let k := running.slu.settings.links.get (1 : Fin 4)
       let bit := 625 * (2 ^ selectedN running.slu.settings.n0 running.slu.settings.n1 k.select * k.divisor)
       24576 * 130 < 10 * bit ∧ ¬24576 * 131 < 10 * bit ∧ ¬11 * bit < 24576 * 143 ∧ 11 * bit < 24576 * 144 ∧
         ¬11 * bit ≤ 24576 * 143 ∧ 11 * bit ≤ 24576 * 144) ∧
      ((withLine running ⟨some 130, none⟩).slu.lines.get (1 : Fin 4)).low = none ∧
      ((withLine running ⟨some 131, some 143⟩).slu.lines.get (1 : Fin 4)).low.isSome = true ∧
      ((polled 144 none).slu.lines.get (1 : Fin 4)).low = none ∧ State.reset.slu.timers.get (1 : Fin 4) = none := by
  decide +kernel

/-! ## The fade event -/

theorem witness_FadeEventMovesAndPosts :
    (gapped.fsc.resetHeld = false ∧ gapped.fdu.timer.isSome = true ∧ gapped.ct.present 7 = false ∧ gapped.ct.present 8 = true ∧
      gapped.fdu.levels.get (8 : Fin 256) = none) ∧
    (lit.fdu.timer.isSome = true ∧ lit.fdu.levels.get (8 : Fin 256) = some 1000 ∧ lit.llc.flight ≠ none) := by decide +kernel

/-- Cell 140 of section 5.5 at D = 120: targets 120, 121, 769 and 770 meet stage 3's cases at their edges with K = 650. -/
theorem witness_FadeEventFormsTargetLevel :
    (∀ target ∈ [120, 121, 769, 770],
      let s := withList (dithering 15) [entry 1 0 .target target 2]
      s.fsc.resetHeld = false ∧ s.fdu.timer.isSome = true ∧ s.ct.present 140 = true ∧ s.ct.frozenCell 140 = false ∧
        1 ≤ (s.ct.cells.get (140 : Fin 256)).efficacy ∧ (s.rlu.resolved.get (140 : Fin 256)).winner = .target 1 0 target) ∧
      ((dithering 15).rlu.resolved.get (140 : Fin 256)).winner = .base ∧
      ((dithering 15).ct.cells.get (140 : Fin 256)).target = 500 ∧ ((dithering 15).lau.cells.get (140 : Fin 256)).residue ≤ 15 := by
  decide +kernel

theorem witness_FadeEventAppliesLimits :
    let fixed := withList running [entry 3 2 .fixed 1000 4, entry 1 1 .cap 1000 2]
    let frozen := send staffed (.writeRow 0x7E [5, 0, 30, 1, 0xF4])
    (fixed.fsc.resetHeld = false ∧ fixed.fdu.timer.isSome = true ∧ fixed.ct.present 160 = true ∧ fixed.ct.frozenCell 160 = false ∧
      (fixed.rlu.resolved.get (160 : Fin 256)).winner = .fixed 3 2 1000) ∧
    (frozen.fsc.resetHeld = false ∧ frozen.fdu.timer.isSome = true ∧ frozen.ct.present 160 = true ∧ frozen.ct.frozenCell 160 = true ∧
      frozen.ct.held.get (160 : Fin 256) = some 100) ∧ shedding.fsc.latch = true ∧ resting.fsc.part = .standby := by decide +kernel

/-! ## The luminaire link -/

theorem witness_BurstStagesPresentBays :
    let s := withCell (withCell running 0 { factoryCell 0 with present := false }) 5 { factoryCell 5 with present := false }
    s.ct.present (cellAt 0 1) = true ∧ s.ct.present (cellAt 0 31) = true ∧
      (∀ b : Fin 32, s.ct.present (cellAt 0 b) = true → 1 ≤ b ∧ b ≤ 31) ∧ s.ct.present (cellAt 0 5) = false := by decide +kernel

/-- The settled part with each kind of work waiting: each line of the table in turn. -/
theorem witness_NextFrameByOrder :
    (settled.llc.state = .run ∧ settled.llc.flight = none ∧ settled.fsc.resetHeld = false ∧ settled.dueRow = none ∧
      settled.llc.pendingShed = false ∧ settled.llc.pendingInit = false ∧ settled.llc.pendingInterval = none ∧
      settled.llc.queue = [] ∧ settled.llc.ages.get (3 : Fin 8) = some 0 ∧ settled.llc.reInit.isSome = true) ∧
    (let s := settled.setLlc { settled.llc with pendingShed := true }
     s.llc.pendingShed = true ∧ s.fsc.latch = false ∧ (s.setFsc { s.fsc with latch := true }).fsc.latch = true) ∧
    (settled.setLlc { settled.llc with pendingInit := true }).llc.pendingInit = true ∧
    (settled.setLlc { settled.llc with pendingInterval := some 200 }).llc.pendingInterval.isSome = true ∧
    (settled.setLlc { settled.llc with ages := settled.llc.ages.set (3 : Fin 8) (some 31250) }).dueRow = some 3 ∧
    (settled.setLlc { settled.llc with ages := settled.llc.ages.set (3 : Fin 8) (some 31249) }).dueRow = none ∧
    (settled.setLlc { settled.llc with queue := [6, 2] }).rowReady 6 = true ∧ running.rowReady 0 = false ∧ lit.llc.flight ≠ none := by
  decide +kernel

theorem witness_FramesComplete :
    (let s := after State.reset .loadComplete
     s.fsc.resetHeld = false ∧ s.llc.state = .init ∧ s.llc.flight = some ⟨.initGroup, 0, 264, false⟩) ∧
    ((after settled .reInitTimer).llc.state = .run ∧ (after settled .reInitTimer).llc.flight = some ⟨.initGroup, 0, 264, false⟩) ∧
    (lit.llc.flight.map fun f => match f.frame with
      | .burst r first bays => (r, first, bays.length, f.cut)
      | _ => (7, 0, 0, true)) = some (0, 0, 32, false) ∧
    (after settled (.rowDue 3)).llc.flight = some ⟨.allTouch, 0, 33, false⟩ ∧
    (after settled .shednAsserted).llc.flight = some ⟨.shed (.const 500 3), 0, 231, false⟩ ∧
    shedding.llc.flight.map Flight.cut = some true ∧ shedding.llc.pendingShed = true ∧ shedding.fsc.latch = true ∧
    shedding.llc.state = .run ∧
    (let init := after settled .reInitTimer
     let cut := after init .shednAsserted
     cut.llc.flight = some ⟨.initGroup, 0, 33, true⟩ ∧ cut.llc.pendingShed = true ∧ cut.fsc.latch = true) ∧
    (let touch := after (after settled (.rowDue 3)) .shednAsserted
     touch.llc.flight = some ⟨.allTouch, 0, 33, false⟩ ∧ touch.llc.pendingShed = true ∧ touch.fsc.latch = true) := by decide +kernel

theorem witness_DriversFollowTheFrames :
    let d : Driver := ⟨2, 31, 100, 620, 8, true, .closed, 9⟩
    let bays := List.replicate 32 (⟨1000, true⟩ : StagedBay)
    d.joined = true ∧ 0 + bays.length ≤ 32 ∧ (∀ b ∈ bays, b.level ≤ 1000) ∧ d.row = 2 ∧ d.row ≠ 3 ∧
      68 < (Frame.burst 2 0 bays).characters.length ∧ (∀ x : Fin 8, (Table.const 1000 3 : Table Nat 3).get x ≤ 1000) ∧
      (let s := settled.setLlc { settled.llc with flight := some ⟨.burst 2 0 bays, 0, 781, false⟩ }
       s.fsc.resetHeld = false ∧ s.ct.present (cellAt 2 31) = true ∧ 0 ≤ d.bay.val ∧
         (bays[d.bay.val - 0]?.map StagedBay.staged) = some true ∧ s.llc.state ≠ .off) ∧
      (Frame.burst 2 0 bays).characters[758 / 11]? = some takeChar ∧ (Frame.burst 2 0 bays).characters.length * 11 ≤ 759 ∧
      Frame.initGroup.characters[241 / 33]? = some initChar ∧ Frame.initGroup.characters.length * 33 ≤ 264 := by decide +kernel

/-! ## Floor states and settings -/

theorem witness_NightAndDay :
    Meets tool .night 0x10 1 (fun _ => tool.fsc.part = .run ∧ (tool.slu.sensors.get (0 : Fin 16)).present = true) [[]] ∧
      Meets resting .night 0x10 1 (fun _ => resting.fsc.part = .standby) [[]] ∧
      Meets tool .day 0x10 1 (fun _ => tool.fsc.part = .run) [[]] ∧
      Meets resting .day 0x10 1 (fun _ => resting.fsc.part = .standby) [[]] := by
  constructorm* _ ∧ _ <;> exact meets_of (by decide +kernel)

/-- The cuts at their edges: the last tick of a closing character and its end; each phase of an INIT group's unit of 33 ticks. -/
theorem witness_ShedLatchSetAndCleared :
    Meets tool .shed 0x10 1 (fun _ => tool.fsc.latch = false) [[]] ∧
      Meets (opened shedding) .shed 0x10 1 (fun _ => (opened shedding).fsc.latch = true) [[]] ∧
      Meets (opened shedding) .shedClear 0x10 1 (fun _ => (opened shedding).fsc.lineAsserted = true) [[]] ∧
      Meets tool .shedClear 0x10 1 (fun _ => tool.fsc.lineAsserted = false ∧ tool.fsc.latch = false) [[]] ∧
      Meets (opened (after shedding .shednReleased)) .shedClear 0x10 1
        (fun _ => (opened (after shedding .shednReleased)).fsc.lineAsserted = false ∧
          (opened (after shedding .shednReleased)).fsc.latch = true) [[]] ∧
      (lit.fsc.resetHeld = false ∧ lit.fsc.lineAsserted = false ∧ lit.llc.state = .run ∧ lit.llc.flight.map cuttable = some true) ∧
      shedding.fsc.resetHeld = false ∧ shedding.fsc.lineAsserted = true ∧ lit.fsc.shedn = true ∧ shedding.fsc.shedn = false ∧
      (settled.llc.flight = none ∧ settled.llc.state = .run) ∧
      ((after settled .shednAsserted).llc.flight.map cuttable = some false) ∧ (after State.reset .loadComplete).llc.state = .init ∧
      cuttable ⟨.burst 0 0 [⟨0, true⟩], 76, 99, false⟩ = true ∧ cuttable ⟨.burst 0 0 [⟨0, true⟩], 77, 99, false⟩ = false ∧
      cuttable ⟨.initGroup, 241, 264, false⟩ = true ∧ cuttable ⟨.initGroup, 242, 264, false⟩ = false ∧
      (7 * 33 ≤ 241 ∧ 241 < 7 * 33 + 11 ∧ 6 * 33 + 11 ≤ 209 ∧ 230 < 6 * 33 + 33) ∧
      shedding.llc.flight.map (fun f => (f.cut, f.ends - f.elapsed)) = some (true, 33) := by
  constructorm* _ ∧ _ <;> first | exact meets_of (by decide +kernel) | decide +kernel

/-- Slots 7 and 8, classes 0, 4 and 5, addresses 07h, 08h, 77h and 78h, held and own addresses, priorities 7 and 8. -/
theorem witness_MasterSlotWritten :
    Meets crowded .writeMasterSlot 0x7E 0 (fun p => 7 < byteAt p 0 ∨ 4 < byteAt p 1) [[8, 1, 8, 0], [7, 5, 8, 0]] ∧
      Meets crowded .writeMasterSlot 0x7E 0 (fun p => byteAt p 0 ≤ 7 ∧ byteAt p 1 = 0) [[7, 0, 0, 0], [0, 0, 0, 0]] ∧
      Meets crowded .writeMasterSlot 0x7E 0 (fun p => byteAt p 0 ≤ 7 ∧ (byteAt p 2 < 0x08 ∨ 0x77 < byteAt p 2)) [[7, 2, 0x07, 0], [7, 2, 0x78, 0]] ∧
      Meets crowded .writeMasterSlot 0x7E 0 (fun p => p.getD 2 0 = crowded.zbi.own ∨ p.getD 2 0 = 0x10) [[7, 2, 0x40, 0], [7, 2, 0x10, 0]] ∧
      Meets crowded .writeMasterSlot 0x7E 0 (fun p => byteAt p 0 = 0 ∧ 0x08 ≤ byteAt p 2 ∧ byteAt p 2 ≤ 0x77) [[0, 4, 0x08, 0], [0, 1, 0x77, 8]] ∧
      Meets crowded .writeMasterSlot 0x7E 0 (fun p => byteAt p 0 = 7 ∧ 0x08 ≤ byteAt p 2 ∧ byteAt p 2 ≤ 0x77) [[7, 2, 0x08, 7], [7, 4, 0x77, 8]] ∧
      crowded.Listed ∧ Role.ofCode 4 = some .blind := by
  constructorm* _ ∧ _ <;> first | exact meets_of (by decide +kernel) | exact crowded_listed | decide +kernel

theorem witness_ProfileAndSensorWritten :
    Meets tool .writeProfile 0x7E 0 (fun p => 7 < byteAt p 0) [[8, 0, 0, 0, 0]] ∧
      Meets tool .writeProfile 0x7E 0 (fun p => byteAt p 0 ≤ 7) [[7, 0, 0, 0x03, 0xE9], [7, 0, 1, 0x03, 0xE8]] ∧
      Meets tool .writeSensor 0x7E 0 (fun p => 15 < byteAt p 0) [[16, 1, 3]] ∧
      Meets tool .writeSensor 0x7E 0 (fun p => byteAt p 0 ≤ 15 ∧ (tool.slu.sensors.get (15 : Fin 16)).present = true)
        [[15, 0, 7], [15, 1, 8], [15, 2, 0]] := by
  constructorm* _ ∧ _ <;> first | exact meets_of (by decide +kernel)

theorem witness_LinkSettingsClampedAndWritten :
    (∀ l : Fin 4, (factoryLinks.links.get l).divisor ≤ 255) ∧ linksOk factoryLinks ∧
      Meets tool .writeLinks 0x7E 0 (fun p => ∃ l : Fin 4, 1 < byteAt p (2 + 2 * l.val)) [[4, 6, 0, 32, 0, 32, 0, 32, 2, 32]] ∧
      Meets tool .writeLinks 0x7E 0 (fun p => (∀ l : Fin 4, byteAt p (2 + 2 * l.val) ≤ 1) ∧ tool.slu.running 2 = true)
        [[4, 6, 0, 32, 0, 32, 1, 64, 0, 32], [4, 7, 0, 32, 0, 32, 0, 32, 0, 32], [12, 12, 1, 255, 0, 3, 0, 0, 1, 255]] := by
  constructorm* _ ∧ _ <;> first | exact meets_of (by decide +kernel) | decide +kernel

/-- Own addresses 07h, 08h, 77h, 78h and 40h, modes 2 and 3, a master's address, and intervals about R and the clamps. -/
theorem witness_PartWritten :
    intervalOk 200 ∧ intervalOk 2000 ∧ 200 ≤ 200 ∧ 199 < 200 ∧ 2000 < 2001 ∧
      Meets tool .writePart 0x7E 0 (fun p => byteAt p 0 < 0x08 ∨ 0x77 < byteAt p 0) [[0x07, 2, 1, 0xF4], [0x78, 2, 1, 0xF4]] ∧
      Meets tool .writePart 0x7E 0 (fun p => 0x08 ≤ byteAt p 0 ∧ byteAt p 0 ≤ 0x77 ∧ 2 < byteAt p 1) [[0x08, 3, 1, 0xF4]] ∧
      Meets tool .writePart 0x7E 0 (fun p => (tool.zbi.slots.get (1 : Fin 8)).address = p.getD 0 0 ∧ byteAt p 1 ≤ 2) [[0x10, 2, 1, 0xF4]] ∧
      Meets tool .writePart 0x7E 0
        (fun p => 0x08 ≤ byteAt p 0 ∧ byteAt p 0 ≤ 0x77 ∧ (QuantMode.ofCode (byteAt p 1)).isSome = true ∧
          ¬∃ x : Fin 8, (tool.zbi.slots.get x).role ≠ .empty ∧ (tool.zbi.slots.get x).address = p.getD 0 0)
        [[0x08, 0, 1, 0xF4], [0x77, 2, 1, 0xF3], [0x40, 1, 0, 0], [0x41, 1, 0xFF, 0xFF], [0x40, 1, 0, 199], [0x40, 1, 0, 200],
          [0x40, 1, 7, 0xD0], [0x40, 1, 7, 0xD1]] := by
  constructorm* _ ∧ _ <;> first | exact meets_of (by decide +kernel) | decide +kernel

/-- A part that is saving. -/
def saving : State := send staffed (.saveSettings 0x7E [])

theorem witness_SaveAndRestart :
    Meets tool .saveSettings 0x7E 0 (fun _ => tool.sst.saving = none) [[]] ∧
      Meets (opened saving) .saveSettings 0x7E 0 (fun _ => (opened saving).sst.saving.isSome = true) [[]] ∧
      saving.fsc.resetHeld = false ∧ (∃ v, saving.sst.saving = some v) ∧
      Meets tool .restart 0x7E 0 (fun _ => tool.sst.saving = none) [[]] ∧
      Meets (opened saving) .restart 0x7E 0 (fun _ => (opened saving).sst.saving.isSome = true) [[]] := by
  constructorm* _ ∧ _ <;> first | exact meets_of (by decide +kernel) | exact Option.isSome_iff_exists.mp (by decide +kernel) | decide +kernel

/-- The part whose commissioning tool has moved to 50h, an address that a load accepts. -/
def moved : State := staffed.setZbi { staffed.zbi with slots := masters.set (0 : Fin 8) ⟨.commissioning, 0x50, 7⟩ }

theorem witness_SavedSettingsSurviveReset :
    Meets (opened moved) .saveSettings 0x50 0 (fun _ => (opened moved).sst.saving = none) [[]] ∧ (opened moved).Ranges ∧
      (opened moved).Masters ∧
      ∀ m : Fin 8, ((opened moved).zbi.slots.get m).role ≠ .empty → addressOk ((opened moved).zbi.slots.get m).address = true :=
  ⟨meets_of (by decide +kernel),
    ⟨running_ranges.ct, ⟨running_ranges.sensors.links, running_ranges.sensors.sensors, running_ranges.sensors.sections,
        running_ranges.sensors.attenuation⟩, running_ranges.list,
      ⟨running_ranges.levels.lau, running_ranges.levels.fades, running_ranges.levels.profiles, running_ranges.levels.taken,
        running_ranges.levels.flight, running_ranges.levels.interval, running_ranges.levels.pendingInterval⟩⟩,
    (by constructor <;> decide +kernel), by decide +kernel⟩

/-- First items 15 and 16, counts 1, 16, 0 and 17; every view with its first unknown code; start positions 47 and 48. -/
theorem witness_ReadsReportAndChangeNothing :
    Meets tool .readStatus 0x20 2 (fun _ => True) [[]] ∧
      Meets tool .readSections 0x20 2 (fun p => 15 < byteAt p 0 ∨ byteAt p 1 = 0 ∨ 16 < byteAt p 1) [[16, 1], [0, 0], [0, 17]] ∧
      Meets tool .readSections 0x20 2 (fun p => byteAt p 0 ≤ 15 ∧ 1 ≤ byteAt p 1 ∧ byteAt p 1 ≤ 16) [[15, 1], [0, 16], [1, 16]] ∧
      Meets tool .readSensors 0x20 2 (fun p => byteAt p 0 ≤ 15 ∧ 1 ≤ byteAt p 1 ∧ byteAt p 1 ≤ 16) [[15, 1], [0, 16], [1, 16]] ∧
      Meets tool .readCells 0x20 2
        (fun p => 7 < byteAt p 0 ∨ 31 < byteAt p 1 ∨ byteAt p 2 = 0 ∨ 32 < byteAt p 2 ∨ 4 < byteAt p 3)
        [[8, 0, 1, 0], [0, 32, 1, 0], [0, 0, 0, 0], [0, 0, 33, 0], [0, 0, 1, 5]] ∧
      Meets tool .readCells 0x20 2
        (fun p => byteAt p 3 ≤ 4 ∧ byteAt p 0 ≤ 7 ∧ byteAt p 1 ≤ 31 ∧ 1 ≤ byteAt p 2 ∧ byteAt p 2 ≤ 32)
        [[7, 31, 1, 0], [0, 0, 17, 0], [0, 0, 16, 0], [0, 0, 32, 1], [0, 0, 1, 2], [0, 0, 1, 3], [7, 31, 32, 4]] ∧
      Meets tool .readRequests 0x20 2 (fun p => 47 < byteAt p 0) [[48]] ∧ Meets tool .readRequests 0x20 2 (fun p => byteAt p 0 ≤ 47) [[0], [47]] ∧
      gappedTool.Fitted ∧ gappedTool.Listed ∧ gappedTool.ct.present 7 = false := by
  constructorm* _ ∧ _ <;> first | exact meets_of (by decide +kernel) | exact gappedTool_fitted | exact gappedTool_listed | decide +kernel

end Sys2Proof.Tests
end

section
/-! PROOF. The filter step of R44: the step of the filter in natural numbers, and the movement of a section's value by it. -/

namespace Sys2Proof.Proofs.FilterStep

open Sys2Proof.Machine

/-! ### The signed step -/

theorem filterDelta_zero (k : Nat) : filterDelta k 0 = 0 := by simp [filterDelta]

/-- Truncating toward zero treats both signs alike. -/
theorem filterDelta_neg (k : Nat) (d : Int) : filterDelta k (-d) = -filterDelta k d := by
  simp only [filterDelta, Int.neg_tdiv, Int.sign_neg, ne_eq, neg_eq_zero]
  split <;> rfl

theorem filterDelta_natCast (k : Nat) {d : Nat} (hd : 0 < d) :
    filterDelta k (d : Int) = (max 1 (d / 2 ^ k) : Nat) := by
  have quotient : (d : Int).tdiv (2 ^ k) = (d / 2 ^ k : Nat) := by
    rw [Int.tdiv_eq_ediv_of_nonneg (Int.natCast_nonneg d)]
    norm_cast
  have sign : (d : Int).sign = 1 := Int.sign_eq_one_of_pos (by omega)
  simp only [filterDelta, quotient, sign]
  generalize d / 2 ^ k = step
  split <;> omega

/-- The least step of 1 included, a step is no longer than the difference: the value never passes the sample. -/
theorem max_one_div_le (k : Nat) {d : Nat} (hd : 0 < d) : max 1 (d / 2 ^ k) ≤ d :=
  max_le hd (Nat.div_le_self d _)

/-! ### The movement of the filtered value -/

/-- The filtered value `f` after a filter step toward `lux` with shift `k`. -/
def moved (k f lux : Nat) : Nat := ((f : Int) + filterDelta k ((lux : Int) - f)).toNat

theorem take_filterStep_of_unseeded {c : Section} (h : c.filtered = none) (lux : Nat) :
    c.take (.filterStep lux) = { c with filtered := some lux } := by
  simp only [Section.take, h]

theorem take_filterStep_of_seeded {c : Section} {f : Nat} (h : c.filtered = some f) (lux : Nat) :
    c.take (.filterStep lux) = { c with filtered := some (moved c.shift f lux) } := by
  simp only [Section.take, h, moved]

theorem moved_self (k f : Nat) : moved k f f = f := by
  simp [moved, filterDelta_zero]

theorem moved_of_lt (k : Nat) {f lux : Nat} (h : f < lux) :
    moved k f lux = f + max 1 ((lux - f) / 2 ^ k) := by
  have difference : (lux : Int) - f = (lux - f : Nat) := by omega
  rw [moved, difference, filterDelta_natCast k (Nat.sub_pos_of_lt h)]
  omega

theorem moved_of_gt (k : Nat) {f lux : Nat} (h : lux < f) :
    moved k f lux = f - max 1 ((f - lux) / 2 ^ k) := by
  have difference : (lux : Int) - f = -(f - lux : Nat) := by omega
  rw [moved, difference, filterDelta_neg, filterDelta_natCast k (Nat.sub_pos_of_lt h)]
  omega

theorem moved_le_of_lt (k : Nat) {f lux : Nat} (h : f < lux) : moved k f lux ≤ lux := by
  have := max_one_div_le k (Nat.sub_pos_of_lt h)
  rw [moved_of_lt k h]
  omega

theorem le_moved_of_gt (k : Nat) {f lux : Nat} (h : lux < f) : lux ≤ moved k f lux := by
  have := max_one_div_le k (Nat.sub_pos_of_lt h)
  rw [moved_of_gt k h]
  omega

theorem moved_add_of_gt (k : Nat) {f lux : Nat} (h : lux < f) :
    moved k f lux + max 1 ((f - lux) / 2 ^ k) = f := by
  have := max_one_div_le k (Nat.sub_pos_of_lt h)
  rw [moved_of_gt k h]
  omega

theorem moved_le_max (k f lux : Nat) : moved k f lux ≤ max f lux := by
  rcases Nat.lt_trichotomy f lux with below | rfl | above
  · exact le_max_of_le_right (moved_le_of_lt k below)
  · rw [moved_self]
    exact le_max_left f f
  · rw [moved_of_gt k above]
    exact le_max_of_le_left (Nat.sub_le f _)

/-- Settles O41: an unseeded section is seeded; a seeded one moves by `moved`, up, down or not at all. -/
theorem filterStepTruncatesTowardSample : Obligations.FilterStepTruncatesTowardSample := by
  intro c lux
  refine ⟨fun unseeded => take_filterStep_of_unseeded unseeded lux, fun f seeded =>
    ⟨moved c.shift f lux, take_filterStep_of_seeded seeded lux, ?still, ?range, ?rise, ?fall⟩⟩
  case still =>
    rintro rfl
    exact moved_self c.shift f
  case range => exact fun hf hlux => (moved_le_max c.shift f lux).trans (max_le hf hlux)
  case rise => exact fun below => ⟨moved_of_lt c.shift below, moved_le_of_lt c.shift below⟩
  case fall => exact fun above => ⟨moved_add_of_gt c.shift above, le_moved_of_gt c.shift above⟩

end Sys2Proof.Proofs.FilterStep
end

section
/-! PROOF. The effective façade value of R48: one lemma per line of its table, and the value's range. -/

namespace Sys2Proof.Proofs.Substitution

open Sys2Proof.Machine Sys2Proof.Machine.State

theorem usable_iff (s : State) (i : Fin 16) :
    s.usable i = true ↔ (s.slu.sensors.get i).health = .fresh ∨ (s.slu.sensors.get i).health = .stale := by
  unfold usable
  cases (s.slu.sensors.get i).health <;> simp

/-! ### The lines of R48's table -/

section Lines

variable {s : State} {i j : Fin 16}

theorem effective_own (own : s.usable i = true) : s.effective i = (s.filteredOf i, .own) := by
  simp only [effective, if_pos own]

theorem effective_lower (own : ¬s.usable i = true) (below : j.val + 1 = i.val) (lower : s.usable j = true) :
    s.effective i = (s.filteredOf j, .lower) := by
  have neighbour : j = ⟨i.val - 1, by omega⟩ := Fin.ext (Nat.eq_sub_of_add_eq below)
  have applies : 0 < i.val ∧ s.usable ⟨i.val - 1, by omega⟩ = true := ⟨by omega, neighbour ▸ lower⟩
  rw [neighbour, effective, if_neg own, dif_pos applies]

/-- The lower neighbour's line does not apply, at the façade's lower end for want of a neighbour. -/
theorem not_lower (lower : ∀ k : Fin 16, k.val + 1 = i.val → ¬s.usable k = true) :
    ¬(0 < i.val ∧ s.usable ⟨i.val - 1, by omega⟩ = true) :=
  fun ⟨pos, usable⟩ => lower ⟨i.val - 1, by omega⟩ (Nat.sub_add_cancel pos) usable

theorem effective_upper (own : ¬s.usable i = true) (lower : ∀ k : Fin 16, k.val + 1 = i.val → ¬s.usable k = true)
    (above : i.val + 1 = j.val) (upper : s.usable j = true) : s.effective i = (s.filteredOf j, .upper) := by
  have inside : i.val + 1 < 16 := by omega
  obtain rfl : j = ⟨i.val + 1, inside⟩ := Fin.ext above.symm
  simp only [effective, if_neg own, dif_neg (not_lower lower), dif_pos inside, if_pos upper]

theorem effective_dark (own : ¬s.usable i = true) (lower : ∀ k : Fin 16, k.val + 1 = i.val → ¬s.usable k = true)
    (upper : ∀ k : Fin 16, i.val + 1 = k.val → ¬s.usable k = true) : s.effective i = (0, .dark) := by
  simp only [effective, if_neg own, dif_neg (not_lower lower)]
  split
  next inside => exact if_neg (upper ⟨i.val + 1, inside⟩ rfl)
  next => rfl

end Lines

/-- The four lines leave nothing out: an effective value is some section's own, or 0. -/
theorem effective_fst_cases (s : State) (i : Fin 16) :
    (∃ j : Fin 16, (s.effective i).1 = s.filteredOf j) ∨ (s.effective i).1 = 0 := by
  by_cases own : s.usable i = true
  · exact .inl ⟨i, by rw [effective_own own]⟩
  by_cases lower : ∃ j : Fin 16, j.val + 1 = i.val ∧ s.usable j = true
  · obtain ⟨j, below, usable⟩ := lower
    exact .inl ⟨j, by rw [effective_lower own below usable]⟩
  have noLower : ∀ k : Fin 16, k.val + 1 = i.val → ¬s.usable k = true := fun k below usable => lower ⟨k, below, usable⟩
  by_cases upper : ∃ j : Fin 16, i.val + 1 = j.val ∧ s.usable j = true
  · obtain ⟨j, above, usable⟩ := upper
    exact .inl ⟨j, by rw [effective_upper own noLower above usable]⟩
  · exact .inr (by rw [effective_dark own noLower fun k above usable => upper ⟨k, above, usable⟩])

theorem effective_le {s : State} (ranges : s.SensorRanges) (i : Fin 16) : (s.effective i).1 ≤ 262080 := by
  rcases effective_fst_cases s i with ⟨j, value⟩ | value
  · obtain ⟨filtered, _, _, _⟩ := ranges.sections j
    exact value.trans_le filtered
  · omega

/-! ### Sections without a usable sensor -/

theorem filtered_eq_none {s : State} (seeded : s.Seeded) {i : Fin 16} (own : ¬s.usable i = true) :
    (s.dle.sections.get i).filtered = none := by
  rw [← seeded i, Section.seeded, Option.not_isSome_iff_eq_none] at own
  exact own

theorem not_usable_of_absent {s : State} (sensed : s.Sensed) {i : Fin 16}
    (absent : (s.slu.sensors.get i).present = false) : ¬s.usable i = true := by
  simp only [usable, (sensed i).mpr absent, Bool.false_eq_true, not_false_eq_true]

/-- Settles O40: one clause for each line of R48's table, then the range and the two facts about unusable sensors. -/
theorem substitutionByNeighbours : Obligations.SubstitutionByNeighbours := by
  intro s i good value
  simp only [good, value, ← usable_iff]
  refine ⟨effective_own, fun j own => effective_lower own, fun j own => effective_upper own, fun own neighbours => ?dark,
    fun seeded => filtered_eq_none seeded, fun sensed => not_usable_of_absent sensed, fun ranges => effective_le ranges i⟩
  case dark => exact effective_dark own (fun k below => neighbours k (.inl below)) (fun k above => neighbours k (.inr above))

end Sys2Proof.Proofs.Substitution
end

section
/-! PROOF. What a command can do, said once: every command is a sequence of `Effect`s, the shared operations of the model with what
each caller guarantees about them. Every invariant is then derived by cases over the effects. -/

namespace Sys2Proof.Proofs.Effects

open Sys2Proof.Machine Sys2Proof.Machine.State

/-! ### Answers -/

@[simp] theorem refuse_state (s : State) (status : Status) : (Answer.refuse s status).state = s := rfl
@[simp] theorem refuse_status (s : State) (status : Status) : (Answer.refuse s status).status = status := rfl
@[simp] theorem refuse_data (s : State) (status : Status) : (Answer.refuse s status).data = [] := rfl
@[simp] theorem plain_state (s : State) (status : Status) : (Answer.plain s status).state = s := rfl
@[simp] theorem plain_status (s : State) (status : Status) : (Answer.plain s status).status = status := rfl
@[simp] theorem plain_data (s : State) (status : Status) : (Answer.plain s status).data = [] := rfl
@[simp] theorem doneOr_state (s : State) (clamped : Bool) : (Answer.doneOr s clamped).state = s := rfl
@[simp] theorem doneOr_status (s : State) (clamped : Bool) :
    (Answer.doneOr s clamped).status = if clamped then .doneClamped else .done := rfl
@[simp] theorem doneOr_data (s : State) (clamped : Bool) : (Answer.doneOr s clamped).data = [] := rfl

/-! ### The zone bus's share of the order of start-up -/

/-- What `StartUp` says of the ZBI, against the FSC. -/
structure BusSound (f : Floor) (z : ZoneBus) : Prop where
  receiving : z.transfer = .receiving ↔ z.request.isSome = true
  holding : z.lines.hold.isSome = true → z.transfer = .executing
  stretch : z.lines.low.isSome = true → z.lines.zcl = false ∧ z.lines.hold = none ∧ f.resetHeld = false
  deaf : f.part = .starting → z.transfer = .idle ∨ z.transfer = .notAddressed
  noPending : f.part = .starting → z.pendingOwn = none ∧ z.reply = none

theorem BusSound.part_of_transfer {f : Floor} {z : ZoneBus} (sound : BusSound f z) (idle : z.transfer ≠ .idle)
    (deaf : z.transfer ≠ .notAddressed) : f.part ≠ .starting :=
  fun starting => (sound.deaf starting).elim idle deaf

/-- A change within the ZBI: the master table stays, the own address stays or a pending one is taken up, and the order of start-up
is kept. -/
structure BusChange (s : State) (z : ZoneBus) : Prop where
  slots : z.slots = s.zbi.slots
  own : (z.own = s.zbi.own ∧ z.pendingOwn = s.zbi.pendingOwn) ∨
    (z.own = s.zbi.pendingOwn.getD s.zbi.own ∧ z.pendingOwn = none)
  sound : BusSound s.fsc s.zbi → BusSound s.fsc z

/-! ### Changes of the sensor side -/

/-- A change of the links that leaves sensors and polling, and keeps the ranges of the settings. -/
structure LinkChange (old new : SensorLinks) : Prop where
  sensors : new.sensors = old.sensors
  polling : new.polling = old.polling
  settings : linksOk old.settings → linksOk new.settings

/-- A change of the DLE that leaves every filtered value, and keeps the ranges. -/
structure DaylightChange (old new : Daylight) : Prop where
  timer : new.timer.isSome = old.timer.isSome
  filtered : ∀ i : Fin 16, (new.sections.get i).filtered = (old.sections.get i).filtered
  sections : ∀ i : Fin 16, sectionOk (old.sections.get i) → sectionOk (new.sections.get i)
  attenuation : (∀ p : Fin 16, old.attenuation.get p ≤ 256) → ∀ p : Fin 16, new.attenuation.get p ≤ 256

/-- The outcomes of the health machine for a sensor (R32 to R34). -/
inductive Judged (r : Sensor) : Sensor × HandOff → Prop
  | valid (x : Sample) (saturated : Bool) (range : sampleOk x) : Judged r (r.onValid x saturated)
  | error (e : SensorError) : Judged r (r.onError e)
  | timeout : Judged r r.onTimeout

/-- A new entry as a SET request forms it (R60, R66), and the place it is given. -/
structure EntryPlaced (s : State) (e : Entry) (a : Acceptance) : Prop where
  executing : s.zbi.transfer = .executing
  live : (s.zbi.slots.get e.slot).role ≠ .empty
  priority : e.priority = (s.zbi.slots.get e.slot).priority
  coverage : e.coverage = s.ct.coverage e.selector
  range : entryOk e
  place : placeFor s.rlu.list e = some a

/-- A master slot as R169 lets it be written. -/
structure SlotAdmitted (s : State) (n : Fin 8) (m : MasterSlot) : Prop where
  vacant : m.role = .empty → m = .vacant
  free : m.role ≠ .empty → s.addressTaken n m.address = false ∧ m.address ≠ s.zbi.own ∧ some m.address ≠ s.zbi.pendingOwn
  commissioning : m.role = .commissioning ∨ s.otherCommissioning n = true

/-! ### The effects -/

/-- One operation of the part, as the commands use it. -/
inductive Effect : State → State → Prop
  | bus {s : State} {z : ZoneBus} (change : BusChange s z) : Effect s (s.setZbi z)
  | fullReset (s : State) : Effect s s.fullReset
  | holdReset (s : State) : Effect s s.holdReset
  | load {s : State} (free : s.fsc.resetHeld = false) (loading : s.sst.loading.isSome = true) : Effect s s.finishLoad
  | level (s : State) (high : Bool) : Effect s (s.shednLevel high)
  | lineLow (s : State) : Effect s s.lineLow
  | lineHigh (s : State) : Effect s s.lineHigh
  | store {s : State} {x : SettingsStore} (loading : x.loading = s.sst.loading) : Effect s (s.setSst x)
  | links {s : State} {u : SensorLinks} (change : LinkChange s.slu u) : Effect s (s.setSlu u)
  | judged {s : State} {i : Fin 16} {x : Sensor × HandOff} (outcome : Judged (s.slu.sensors.get i) x) : Effect s (s.putSensor i x)
  | sensor (s : State) (i : Fin 16) (present : Bool) : Effect s (s.changeSensor i present)
  | daylight {s : State} {x : Daylight} (change : DaylightChange s.dle x) : Effect s (s.setDle x)
  | rluSecond (s : State) : Effect s s.rluSecond
  | thaw (s : State) (p : Fin 8 → Bool) : Effect s (s.unfreezeRows p)
  | fade (s : State) : Effect s s.fade
  | complete (s : State) : Effect s s.complete
  | due (s : State) (r : Fin 8) : Effect s (s.rowBecomesDue r)
  | reInit (s : State) : Effect s s.reInitExpiry
  | entry {s : State} {e : Entry} {a : Acceptance} (placed : EntryPlaced s e a) :
      Effect s (s.setList (acceptInto s.rlu.list e a) (e.selector :: (a.leaver.map Entry.selector).toList))
  | remove (s : State) (p : Entry → Bool) : Effect s (s.removeEntries p)
  | shortfall {s : State} {x : Levels} (mode : x.mode = s.lau.mode)
      (cells : ∀ c : Fin 256, x.cells.get c = s.lau.cells.get c ∨ x.cells.get c = { s.lau.cells.get c with shortfall := false }) :
      Effect s (s.setLau x)
  | cells (s : State) (w : CellWrite) : Effect s (w.apply s)
  | row (s : State) (r : Fin 8) {factor shed : Nat} (hf : factor ≤ 10000) (hs : shed ≤ 1000) : Effect s (s.writeRow r factor shed)
  | slot {s : State} {n : Fin 8} {m : MasterSlot} (admitted : SlotAdmitted s n m) : Effect s (s.writeSlot n m)
  | profile (s : State) (i : Fin 8) (up down : Nat) :
      Effect s (s.setFdu { s.fdu with profiles := s.fdu.profiles.set i ⟨clampStep up, clampStep down⟩ })
  | own {s : State} {a : Byte} (executing : s.zbi.transfer = .executing) (range : addressOk a = true)
      (free : ∀ n : Fin 8, (s.zbi.slots.get n).role ≠ .empty → (s.zbi.slots.get n).address ≠ a) : Effect s (s.setOwn a)
  | mode (s : State) (m : QuantMode) : Effect s (s.setMode m)
  | interval (s : State) (v : Nat) : Effect s (s.setInterval (clampInterval v))
  | restart (s : State) : Effect s (s.setFsc { s.fsc with restartPending := true })
  | night (s : State) : Effect s s.enterStandby
  | day (s : State) : Effect s s.leaveStandby
  | latch (s : State) : Effect s s.setLatch
  | unlatch {s : State} (released : s.fsc.lineAsserted = false) : Effect s (s.setFsc { s.fsc with latch := false })

/-- Effects one after another. -/
abbrev EffectSeq : State → State → Prop := Relation.ReflTransGen Effect

/-- What carries through every effect carries through a sequence of them. -/
theorem EffectSeq.keeps {P : State → Prop} (h : ∀ s t, Effect s t → P s → P t) {s t : State} (e : EffectSeq s t) (hs : P s) : P t := by
  induction e with
  | refl => exact hs
  | tail _ step ih => exact h _ _ step ih

/-! ### Owners -/

/-- The ZBI's transfer and lines, and the hold of RSTn, are as they were. -/
def Calm (s t : State) : Prop :=
  t.zbi.transfer = s.zbi.transfer ∧ t.zbi.lines = s.zbi.lines ∧ t.fsc.resetHeld = s.fsc.resetHeld

/-- Effects of an owner, which leave the transfer alone. -/
abbrev OwnerSeq : State → State → Prop := Relation.ReflTransGen fun s t => Effect s t ∧ Calm s t

theorem OwnerSeq.seq {s t : State} (e : OwnerSeq s t) : EffectSeq s t :=
  Relation.ReflTransGen.mono (fun _ _ h => h.1) s t e

theorem OwnerSeq.calm {s t : State} (e : OwnerSeq s t) : Calm s t := by
  induction e with
  | refl => exact ⟨rfl, rfl, rfl⟩
  | tail _ step ih => exact ⟨step.2.1.trans ih.1, step.2.2.1.trans ih.2.1, step.2.2.2.trans ih.2.2⟩

theorem OwnerSeq.one {s t : State} (e : Effect s t) (transfer : t.zbi.transfer = s.zbi.transfer)
    (lines : t.zbi.lines = s.zbi.lines) (held : t.fsc.resetHeld = s.fsc.resetHeld) : OwnerSeq s t :=
  .single ⟨e, transfer, lines, held⟩

theorem setLatch_fsc (s : State) : s.setLatch.fsc = { s.fsc with latch := true } := by
  rcases s with ⟨_, _, _, _, _, _, _, ⟨_, latch, _, _, _, _, _⟩, _, _, _⟩
  cases latch <;> simp [setLatch]

theorem enterStandby_resetHeld (s : State) : s.enterStandby.fsc.resetHeld = s.fsc.resetHeld := by
  unfold enterStandby; split <;> rfl

theorem leaveStandby_resetHeld (s : State) : s.leaveStandby.fsc.resetHeld = s.fsc.resetHeld := by
  unfold leaveStandby; split <;> rfl

theorem byteAt_le (p : List Byte) (i : Nat) : byteAt p i ≤ 255 := by
  have := (p.getD i 0).isLt
  unfold byteAt
  omega

theorem halfAt_le (p : List Byte) (i : Nat) : halfAt p i ≤ 65535 := by
  have := byteAt_le p i
  have := byteAt_le p (i + 1)
  unfold halfAt
  omega

theorem holdOk_holdOf {v : Nat} (h : v ≤ 65535) : holdOk (holdOf v) := by
  unfold holdOf
  split
  · exact ⟨nofun, Nat.zero_le _⟩
  · next ne => exact ⟨fun e => ne (Option.some.inj e), h⟩

theorem setEntry_effects (kind : Kind) {n : Fin 8} {s : State} (p : List Byte) (live : (s.zbi.slots.get n).role ≠ .empty)
    (executing : s.zbi.transfer = .executing) : OwnerSeq s (setEntry kind n p s).state := by
  unfold setEntry
  split
  · exact .refl
  split
  · exact .refl
  next sel _ =>
  split
  · exact .refl
  next sound =>
  have malformed : sel.malformed = false := by
    simp only [Bool.or_eq_true, not_or, Bool.not_eq_true] at sound
    exact sound.1
  dsimp only
  split
  · exact .refl
  next a place =>
  have placed : EntryPlaced s (newEntry s kind n p sel) a :=
    { executing, live, priority := rfl, coverage := rfl, place,
      range := ⟨min_le_right _ _, holdOk_holdOf (halfAt_le p 3), malformed⟩ }
  have listed : OwnerSeq s (s.setList (acceptInto s.rlu.list (newEntry s kind n p sel) a) _) :=
    .one (.entry placed) rfl rfl rfl
  show OwnerSeq s (acceptEntry s (newEntry s kind n p sel) a)
  unfold acceptEntry
  dsimp only
  split
  · exact listed.trans (OwnerSeq.one (.day _) (by rw [leaveStandby_zbi]) (by rw [leaveStandby_zbi]) (leaveStandby_resetHeld _))
  · exact listed

theorem releaseEntries_effects (s : State) (p : Entry → Bool) : OwnerSeq s (releaseEntries s p).state :=
  .one (.remove s p) rfl rfl rfl

theorem daylight_effects {s : State} {x : Daylight} (change : DaylightChange s.dle x) : OwnerSeq s (s.setDle x) :=
  .one (.daylight change) rfl rfl rfl

theorem takeBlindStep_effects (n : Fin 8) (p : List Byte) (s : State) : OwnerSeq s (takeBlindStep n p s).state := by
  unfold takeBlindStep
  split
  · exact .refl
  refine daylight_effects ⟨rfl, fun i => ?_, fun i range => ?_, fun h => h⟩
  · rw [Table.get_ofFn _ _ rfl]
    split <;> rfl
  · rw [Table.get_ofFn _ _ rfl]
    split
    · exact ⟨range.1, range.2.1, holdOk_holdOf (halfAt_le p 3), fun unknown => absurd unknown (by simp)⟩
    · exact range

theorem takeBlindTable_effects (n : Fin 8) (p : List Byte) (s : State) : OwnerSeq s (takeBlindTable n p s).state := by
  refine daylight_effects ⟨rfl, fun _ => rfl, fun _ range => range, fun _ q => ?_⟩
  rw [Table.get_ofFn _ _ rfl]
  exact min_le_right _ _

theorem takeClearShortfall_effects (n : Fin 8) (p : List Byte) (s : State) :
    OwnerSeq s (takeClearShortfall n p s).state := by
  unfold takeClearShortfall
  dsimp only
  split
  · exact .refl
  refine .one (.shortfall rfl fun c => ?_) rfl rfl rfl
  rw [Table.get_ofFn _ _ rfl]
  split
  · exact .inr rfl
  · exact .inl rfl

theorem CellWrite.apply_zbi (w : CellWrite) (s : State) : (w.apply s).zbi = s.zbi := by
  unfold CellWrite.apply
  dsimp only
  split <;> simp

theorem CellWrite.apply_fsc (w : CellWrite) (s : State) : (w.apply s).fsc = s.fsc := by
  unfold CellWrite.apply
  dsimp only
  split <;> simp

theorem takeCellField_effects (n : Fin 8) (p : List Byte) (s : State) : OwnerSeq s (takeCellField n p s).state := by
  unfold takeCellField
  split
  · exact .refl
  · next w _ => exact .one (.cells s w) (by rw [CellWrite.apply_zbi]) (by rw [CellWrite.apply_zbi]) (by rw [CellWrite.apply_fsc])

theorem takeRow_effects (n : Fin 8) (p : List Byte) (s : State) : OwnerSeq s (takeRow n p s).state := by
  unfold takeRow
  split
  · exact .refl
  · exact .one (.row s _ (min_le_right _ _) (min_le_right _ _)) (by simp) (by simp) (by simp)

theorem takeCalApply_effects (n : Fin 8) (p : List Byte) (s : State) : OwnerSeq s (takeCalApply n p s).state := by
  unfold takeCalApply
  dsimp only
  split
  · exact .refl
  · exact .one (.thaw s _) rfl rfl rfl

theorem takeMasterSlot_effects (n : Fin 8) (p : List Byte) (s : State) : OwnerSeq s (takeMasterSlot n p s).state := by
  unfold takeMasterSlot
  dsimp only
  split
  · exact .refl
  split
  · exact .refl
  · split
    · next other =>
      exact .one (.slot ⟨fun _ => rfl, fun ne => absurd rfl ne, .inr other⟩) rfl rfl rfl
    · exact .refl
  next role occupied _ =>
  split
  · exact .refl
  split
  · exact .refl
  next free =>
  simp only [Bool.or_eq_true, decide_eq_true_eq, not_or, Bool.not_eq_true] at free
  obtain ⟨⟨taken, own⟩, pendingOwn⟩ := free
  split
  · exact .refl
  next last =>
  refine .one (.slot ⟨fun empty => absurd empty occupied, fun _ => ⟨taken, own, pendingOwn⟩, ?_⟩) rfl rfl rfl
  rw [not_and_or, not_not, Bool.not_eq_false] at last
  exact last

theorem takeProfile_effects (n : Fin 8) (p : List Byte) (s : State) : OwnerSeq s (takeProfile n p s).state := by
  unfold takeProfile
  split
  · exact .refl
  · exact .one (.profile s _ _ _) rfl rfl rfl

theorem setShift_change (s : State) (i : Fin 16) {k : Nat} (h : k ≤ 7) : DaylightChange s.dle (s.setShift i k).dle := by
  refine ⟨rfl, fun j => ?_, fun j range => ?_, fun h => h⟩ <;> simp only [setShift, setDle_dle, Table.get_set, Nat.reducePow]
  · split
    · next same => rw [same]
    · rfl
  · split
    · next same => exact same ▸ ⟨range.1, h, range.2.2⟩
    · exact range

theorem takeSensor_effects (n : Fin 8) (p : List Byte) (s : State) : OwnerSeq s (takeSensor n p s).state := by
  unfold takeSensor
  split
  · exact .refl
  have shifted : OwnerSeq s (s.setShift (Fin.ofNat 16 (byteAt p 0)) (clampShift (byteAt p 2))) :=
    daylight_effects (setShift_change s _ (min_le_right _ _))
  dsimp only [Answer.doneOr, Answer.plain]
  split
  · exact shifted.tail ⟨.sensor _ _ _, rfl, rfl, rfl⟩
  · exact shifted

/-! ### Link settings (R24) -/

theorem clockHz_anti {m n : Nat} (h : m ≤ n) : clockHz n ≤ clockHz m :=
  Nat.div_le_div_left (Nat.pow_le_pow_right (by omega) h) (by positivity)

theorem clockHz_nine : clockHz 9 = 9600 := by decide

/-- A link's resulting settings have their ranges on every clock that is at most n = 11 and on one of which n is at most 9 (R24). -/
theorem clampLink_ok {n0 n1 : Nat} (h : n0 ≤ 9 ∨ n1 ≤ 9) {l : LinkSetting} (hd : 4 ≤ l.divisor) (hd' : l.divisor ≤ 255) :
    4 ≤ (clampLink n0 n1 l).divisor ∧ (clampLink n0 n1 l).divisor ≤ 255 ∧
      2400 * (clampLink n0 n1 l).divisor ≤ clockHz (selectedN n0 n1 (clampLink n0 n1 l).select) := by
  have slow : selectedN n0 n1 (clampLink n0 n1 l).select ≤ 9 := by
    show selectedN n0 n1 (if 9 < selectedN n0 n1 l.select then l.select.other else l.select) ≤ 9
    split
    · next fast => cases hs : l.select <;> simp only [hs, selectedN, ClockSelect.other] at fast ⊢ <;> omega
    · next slow => exact not_lt.mp slow
  have hz := clockHz_anti slow
  rw [clockHz_nine] at hz
  have divisor : (clampLink n0 n1 l).divisor =
      if clockHz (selectedN n0 n1 (clampLink n0 n1 l).select) < 2400 * l.divisor then
        clockHz (selectedN n0 n1 (clampLink n0 n1 l).select) / 2400
      else l.divisor := rfl
  rw [divisor]
  split <;> omega

theorem linksOk_clamped {w : LinkSettings} (h : ∀ l : Fin 4, (w.links.get l).divisor ≤ 255) : linksOk w.clamped := by
  have one : (if 9 < min w.n0 11 ∧ 9 < min w.n1 11 then 9 else min w.n0 11) ≤ 9 ∨ min w.n1 11 ≤ 9 := by split <;> omega
  refine ⟨?_, min_le_right _ _, fun l => ?_⟩
  · show (if 9 < min w.n0 11 ∧ 9 < min w.n1 11 then 9 else min w.n0 11) ≤ 11
    split <;> omega
  · have := h l
    simp only [LinkSettings.clamped, Table.get_map]
    exact clampLink_ok one (by simp) (by simp only; omega)

theorem takeLinks_effects (n : Fin 8) (p : List Byte) (s : State) : OwnerSeq s (takeLinks n p s).state := by
  unfold takeLinks
  split
  · exact .refl
  next w written =>
  split
  · exact .refl
  refine .one (.links ⟨rfl, rfl, fun _ => linksOk_clamped fun l => ?_⟩) rfl rfl rfl
  unfold writtenLinks at written
  split at written
  · cases written
    rw [Table.get_ofFn _ _ rfl]
    exact byteAt_le p _
  · cases written

theorem takePart_effects (n : Fin 8) {s : State} (p : List Byte) (executing : s.zbi.transfer = .executing) :
    OwnerSeq s (takePart n p s).state := by
  unfold takePart
  dsimp only
  split
  · exact .refl
  next range =>
  split
  · exact .refl
  next m _ =>
  split
  · exact .refl
  next free =>
  have own : OwnerSeq s (s.setOwn (p.getD 0 0)) := by
    refine .one (.own executing (by simpa using range) fun k occupied taken => free ?_) ?_ ?_ (by simp)
    · simpa using ⟨k, occupied, taken⟩
    all_goals unfold setOwn; split <;> rfl
  have mode : OwnerSeq (s.setOwn (p.getD 0 0)) ((s.setOwn (p.getD 0 0)).setMode m) :=
    .one (.mode _ m) (by simp) (by simp) (by simp)
  exact (own.trans mode).trans (OwnerSeq.one (.interval _ _) (by simp) (by simp) (by simp))

theorem takeSave_effects (n : Fin 8) (p : List Byte) (s : State) : OwnerSeq s (takeSave n p s).state := by
  unfold takeSave
  split
  · exact .refl
  · exact .one (.store rfl) rfl rfl rfl

theorem takeRestart_effects (n : Fin 8) (p : List Byte) (s : State) : OwnerSeq s (takeRestart n p s).state := by
  unfold takeRestart
  split
  · exact .refl
  · exact .one (.restart s) rfl rfl rfl

theorem takeShed_effects (n : Fin 8) (p : List Byte) (s : State) : OwnerSeq s (takeShed n p s).state := by
  unfold takeShed
  split
  · exact .refl
  · exact .one (.latch s) (by simp) (by simp) (by simp [setLatch_fsc])

theorem takeShedClear_effects (n : Fin 8) (p : List Byte) (s : State) : OwnerSeq s (takeShedClear n p s).state := by
  unfold takeShedClear
  split
  · exact .refl
  next released =>
  split
  · exact .one (.unlatch (by simpa using released)) rfl rfl rfl
  · exact .refl

/-- The views leave the part as it is. -/
theorem view_state {k : Request} (h : k = .readCells ∨ k = .readSections ∨ k = .readRequests ∨ k = .readStatus ∨ k = .readSensors)
    (n : Fin 8) (p : List Byte) (s : State) : (ownerOf k n p s).state = s := by
  rcases h with rfl | rfl | rfl | rfl | rfl
  · dsimp only [ownerOf, viewCells]
    split
    · rfl
    · split <;> rfl
  · dsimp only [ownerOf, viewSections, viewRun]
    split <;> rfl
  · dsimp only [ownerOf, viewRequests]
    split <;> rfl
  · rfl
  · dsimp only [ownerOf, viewSensors, viewRun]
    split <;> rfl

/-- Every owner's answer is a sequence of effects that leaves the transfer alone. -/
theorem owner_effects (k : Request) {n : Fin 8} (p : List Byte) {s : State} (live : (s.zbi.slots.get n).role ≠ .empty)
    (executing : s.zbi.transfer = .executing) : OwnerSeq s (ownerOf k n p s).state := by
  cases k with
  | setTarget => exact setEntry_effects .target p live executing
  | setFixed => exact setEntry_effects .fixed p live executing
  | setCap => exact setEntry_effects .cap p live executing
  | release => show OwnerSeq s (releaseTag n p s).state; unfold releaseTag; split; exacts [.refl, releaseEntries_effects s _]
  | releaseOwn => exact releaseEntries_effects s _
  | releaseSlot => show OwnerSeq s (releaseNamed n p s).state; unfold releaseNamed; split; exacts [.refl, releaseEntries_effects s _]
  | blindStep => exact takeBlindStep_effects n p s
  | readCells => rw [view_state (by simp)]
  | readSections => rw [view_state (by simp)]
  | readRequests => rw [view_state (by simp)]
  | readStatus => rw [view_state (by simp)]
  | readSensors => rw [view_state (by simp)]
  | clearShortfall => exact takeClearShortfall_effects n p s
  | writeCellField => exact takeCellField_effects n p s
  | writeRow => exact takeRow_effects n p s
  | calApply => exact takeCalApply_effects n p s
  | writeMasterSlot => exact takeMasterSlot_effects n p s
  | writeBlindTable => exact takeBlindTable_effects n p s
  | writeProfile => exact takeProfile_effects n p s
  | writeSensor => exact takeSensor_effects n p s
  | writeLinks => exact takeLinks_effects n p s
  | writePart => exact takePart_effects n p executing
  | saveSettings => exact takeSave_effects n p s
  | restart => exact takeRestart_effects n p s
  | night => exact .one (.night s) (by simp [ownerOf, takeNight]) (by simp [ownerOf, takeNight]) (enterStandby_resetHeld s)
  | day => exact .one (.day s) (by simp [ownerOf, takeDay]) (by simp [ownerOf, takeDay]) (leaveStandby_resetHeld s)
  | shed => exact takeShed_effects n p s
  | shedClear => exact takeShedClear_effects n p s

end Sys2Proof.Proofs.Effects
end

section
/-! PROOF. The zone bus's operations as effects, and with them every command: `exec_effects`. -/

namespace Sys2Proof.Proofs.Effects

open Sys2Proof.Machine Sys2Proof.Machine.State

/-! ### Changes within the ZBI -/

/-- A change that leaves master table and addresses. -/
theorem bus_effect {s : State} {z : ZoneBus} (slots : z.slots = s.zbi.slots) (own : z.own = s.zbi.own)
    (pendingOwn : z.pendingOwn = s.zbi.pendingOwn) (sound : BusSound s.fsc s.zbi → BusSound s.fsc z) :
    EffectSeq s (s.setZbi z) := .single (.bus ⟨slots, .inl ⟨own, pendingOwn⟩, sound⟩)

/-- New lines, with a hold only in EXECUTING and a stretch of ZCL low only while ZCL is low and not held. -/
theorem setLines_effect {s : State} {l : BusLines}
    (lines : BusSound s.fsc s.zbi → (l.hold.isSome = true → s.zbi.transfer = .executing) ∧
      (l.low.isSome = true → l.zcl = false ∧ l.hold = none ∧ s.fsc.resetHeld = false)) : EffectSeq s (s.setLines l) :=
  bus_effect rfl rfl rfl fun sound => ⟨sound.receiving, (lines sound).1, (lines sound).2, sound.deaf, sound.noPending⟩

/-- Lines with no hold, and low counted only outside reset with ZCL low. -/
theorem setLines_free {s : State} {l : BusLines} (hold : l.hold = none)
    (low : l.low.isSome = true → l.zcl = false ∧ s.fsc.resetHeld = false) : EffectSeq s (s.setLines l) :=
  setLines_effect fun _ => ⟨by simp [hold], fun h => ⟨(low h).1, hold, (low h).2⟩⟩

/-- Lines that keep ZCL's level, its hold and its stretch. -/
theorem setLines_kept {s : State} {l : BusLines} (zcl : l.zcl = s.zbi.lines.zcl) (hold : l.hold = s.zbi.lines.hold)
    (low : l.low = s.zbi.lines.low) : EffectSeq s (s.setLines l) :=
  setLines_effect fun sound => ⟨hold ▸ sound.holding, by rw [zcl, hold, low]; exact sound.stretch⟩

theorem clocked_effects {s : State} (free : s.fsc.resetHeld = false) : EffectSeq s s.clocked :=
  setLines_free rfl fun low => by
    cases h : s.zbi.lines.zcl <;> simp_all [BusLines.clocked]

theorem discardRequest_effects {s : State} (hold : s.zbi.lines.hold = none) : EffectSeq s s.discardRequest :=
  bus_effect rfl rfl rfl fun sound =>
    ⟨by simp, by simp [hold], sound.stretch, fun _ => .inr rfl, sound.noPending⟩

theorem enterExecuting_effects {s : State} (receiving : s.zbi.transfer = .receiving) : EffectSeq s s.enterExecuting :=
  bus_effect rfl rfl rfl fun sound =>
    ⟨by simp, fun _ => rfl, sound.stretch,
      fun starting => absurd starting (sound.part_of_transfer (by simp [receiving]) (by simp [receiving])), sound.noPending⟩

theorem composeAnswer_effects {s : State} (executing : s.zbi.transfer = .executing) (status : Status) (data : List Byte) :
    EffectSeq s (s.composeAnswer status data) :=
  bus_effect rfl rfl rfl fun sound =>
    have running := sound.part_of_transfer (by simp [executing]) (by simp [executing])
    ⟨by simpa [executing] using sound.receiving, fun _ => rfl, sound.stretch, fun h => absurd h running, fun h => absurd h running⟩

theorem answerFloorCall_effects {s : State} (executing : s.zbi.transfer = .executing) : EffectSeq s s.answerFloorCall :=
  bus_effect rfl rfl rfl fun sound =>
    have running := sound.part_of_transfer (by simp [executing]) (by simp [executing])
    ⟨by simpa [executing] using sound.receiving, fun _ => rfl, sound.stretch, fun h => absurd h running, fun h => absurd h running⟩

theorem leaveExecuting_effects {s : State} (hold : s.zbi.lines.hold = none) : EffectSeq s s.leaveExecuting := by
  unfold leaveExecuting
  split
  next executing =>
    refine bus_effect rfl rfl rfl fun sound => ?_
    have running := sound.part_of_transfer (by simp [executing]) (by simp [executing])
    have request : s.zbi.request.isSome = false := by simpa [executing] using sound.receiving
    refine ⟨?_, by simp [hold], sound.stretch, fun h => absurd h running, fun h => absurd h running⟩
    cases s.zbi.reply <;> simp [request]
  all_goals exact .refl

theorem notAcked_effects (s : State) : EffectSeq s s.notAcked :=
  bus_effect rfl rfl rfl fun sound => ⟨sound.receiving, sound.holding, sound.stretch, sound.deaf, sound.noPending⟩

theorem keepByte_effects {s : State} (receiving : s.zbi.transfer = .receiving) (bytes : List Byte) :
    EffectSeq s (s.keepByte bytes) :=
  bus_effect rfl rfl rfl fun sound => ⟨by simp [receiving], sound.holding, sound.stretch, sound.deaf, sound.noPending⟩

/-! ### Requests -/

/-- The bytes of the bus leave its lines, and the hold of RSTn, alone. -/
def KeepsLines (s t : State) : Prop := t.zbi.lines = s.zbi.lines ∧ t.fsc.resetHeld = s.fsc.resetHeld

theorem judge_effects (k : Request) (source : Byte) (p : List Byte) {s : State} (executing : s.zbi.transfer = .executing) :
    OwnerSeq s (s.judge k (ownerOf k) source p).state := by
  rw [judge_eq]
  split
  · exact .refl
  next n sender =>
  split
  · exact .refl
  split
  · exact .refl
  exact owner_effects k p (senderSlot_spec sender).1 executing

theorem takeRequest_effects {s : State} (receiving : s.zbi.transfer = .receiving) (floorOk : Bool) {answer : State → Answer}
    (owner : ∀ t : State, t.zbi.transfer = .executing → OwnerSeq t (answer t).state) :
    EffectSeq s (s.takeRequest floorOk answer) ∧ KeepsLines s (s.takeRequest floorOk answer) := by
  have taken := owner s.enterExecuting rfl
  have entered := enterExecuting_effects receiving
  obtain ⟨transfer, lines, held⟩ := taken.calm
  unfold takeRequest
  split
  · split
    · exact ⟨(entered.trans taken.seq).trans (answerFloorCall_effects transfer), lines, held⟩
    · exact ⟨entered.trans (answerFloorCall_effects rfl), rfl, rfl⟩
  · exact ⟨(entered.trans taken.seq).trans (composeAnswer_effects transfer _ _), lines, held⟩

theorem takeCode_effects {s : State} (receiving : s.zbi.transfer = .receiving) (code source : Byte) (p : List Byte) :
    EffectSeq s (s.takeCode code source p) ∧ KeepsLines s (s.takeCode code source p) := by
  unfold takeCode
  split
  · exact takeRequest_effects receiving _ fun t executing => judge_effects _ source p executing
  · refine takeRequest_effects receiving _ fun t _ => ?_
    split <;> exact .refl

theorem receiveByte_effects {s : State} (hold : s.zbi.lines.hold = none) (b : Byte) :
    EffectSeq s (s.receiveByte b) ∧ KeepsLines s (s.receiveByte b) := by
  unfold receiveByte
  split
  case h_1 receiving =>
    dsimp only
    split
    · split
      · exact ⟨discardRequest_effects hold, rfl, rfl⟩
      split
      · exact ⟨keepByte_effects receiving _, rfl, rfl⟩
      split
      · exact takeCode_effects receiving _ _ _
      · exact ⟨discardRequest_effects hold, rfl, rfl⟩
    · exact ⟨keepByte_effects receiving _, rfl, rfl⟩
  all_goals first
    | exact ⟨notAcked_effects s, rfl, rfl⟩
    | exact ⟨.refl, rfl, rfl⟩

theorem byteWritten_effects {s : State} (free : s.fsc.resetHeld = false) (b : Byte) :
    EffectSeq s (s.byteWritten b) ∧ (s.byteWritten b).fsc.resetHeld = false := by
  have received := receiveByte_effects (s := s.clocked) rfl b
  have hold : (s.clocked.receiveByte b).zbi.lines.hold = none := by rw [received.2.1]; rfl
  have whole : EffectSeq s ((s.clocked.receiveByte b).leaveExecuting) ∧
      ((s.clocked.receiveByte b).leaveExecuting).fsc.resetHeld = false :=
    ⟨((clocked_effects free).trans received.1).trans (leaveExecuting_effects hold), by
      rw [leaveExecuting_fsc, received.2.2]; exact free⟩
  unfold byteWritten
  cases s.zbi.transfer with
  | executing | replying => exact ⟨.refl, free⟩
  | idle | receiving | replyReady | notAddressed => exact whole

theorem bytesWritten_effects (l : List Byte) {s : State} (free : s.fsc.resetHeld = false) : EffectSeq s (s.bytesWritten l) := by
  induction l generalizing s with
  | nil => exact .refl
  | cons b l ih =>
    obtain ⟨one, free'⟩ := byteWritten_effects free b
    exact one.trans (ih free')

/-! ### Address bytes, replies and the end of a transfer -/

theorem address_effects {s : State} (hold : s.zbi.lines.hold = none) (b : Byte) :
    EffectSeq s (s.address b) ∧ KeepsLines s (s.address b) := by
  have ignored : EffectSeq s s.ignoreAddress ∧ KeepsLines s s.ignoreAddress :=
    ⟨bus_effect rfl rfl rfl fun sound =>
      ⟨by simp, by simp [hold], sound.stretch, fun _ => .inr rfl, fun h => ⟨(sound.noPending h).1, rfl⟩⟩, rfl, rfl⟩
  have opened (running : s.fsc.part ≠ .starting) : EffectSeq s (s.beginRequest b) ∧ KeepsLines s (s.beginRequest b) :=
    ⟨bus_effect rfl rfl rfl fun sound =>
      ⟨by simp, by simp [hold], sound.stretch, fun h => absurd h running, fun h => absurd h running⟩, rfl, rfl⟩
  have read (running : s.fsc.part ≠ .starting) : EffectSeq s s.beginReply ∧ KeepsLines s s.beginReply :=
    ⟨bus_effect rfl rfl rfl fun sound =>
      ⟨by simp, by simp [hold], sound.stretch, fun h => absurd h running, fun h => absurd h running⟩, rfl, rfl⟩
  unfold address
  split
  · exact ⟨.refl, rfl, rfl⟩
  all_goals
    split
    · exact ignored
    all_goals
      next part =>
      have running : s.fsc.part ≠ .starting := by simp [part]
      split_ifs
      exacts [read running, ignored, opened running, read running, ignored]

theorem readReply_effects (s : State) (n : Nat) (ackLast : Bool) : EffectSeq s (s.readReply n ackLast) := by
  unfold readReply
  split
  case h_1 =>
    exact bus_effect rfl rfl rfl fun sound => ⟨sound.receiving, sound.holding, sound.stretch, sound.deaf, sound.noPending⟩
  all_goals exact .refl

theorem driveNext_effects (s : State) : EffectSeq s s.driveNext := setLines_kept rfl rfl rfl

theorem readWhole_effects {s : State} (free : s.fsc.resetHeld = false) (n : Nat) (ackLast : Bool) :
    EffectSeq s (s.readWhole n ackLast) := by
  unfold readWhole
  split
  case h_1 =>
    split
    · exact .refl
    · exact ((clocked_effects free).trans (readReply_effects _ _ _)).trans (driveNext_effects _)
  all_goals exact .refl

theorem endTransfer_effect (s : State) : Effect s s.endTransfer :=
  .bus ⟨rfl, .inr ⟨rfl, rfl⟩, fun sound =>
    ⟨by simp, by simp [BusLines.quiet], fun low => ⟨(sound.stretch low).1, rfl, (sound.stretch low).2.2⟩,
      fun _ => .inl rfl, fun _ => ⟨rfl, rfl⟩⟩⟩

theorem endOrRestart_effects (s : State) : EffectSeq s s.endOrRestart := by
  unfold endOrRestart
  split
  · exact .single (.fullReset s)
  · exact .single (endTransfer_effect s)

theorem stopCondition_effects (s : State) : EffectSeq s s.stopCondition := by
  unfold stopCondition
  cases s.zbi.transfer with
  | executing => exact .refl
  | idle | receiving | replyReady | replying | notAddressed => exact endOrRestart_effects s

theorem stopWhole_effects {s : State} (free : s.fsc.resetHeld = false) : EffectSeq s s.stopWhole := by
  unfold stopWhole
  cases s.zbi.transfer with
  | executing => exact .refl
  | idle | receiving | replyReady | replying | notAddressed => exact (clocked_effects free).trans (stopCondition_effects _)

theorem clockLow_effects (s : State) : EffectSeq s s.clockLow := by
  unfold clockLow
  cases s.zbi.transfer with
  | idle => exact .refl
  | executing => dsimp only; split; exacts [.refl, endOrRestart_effects s]
  | receiving | replyReady | replying | notAddressed => exact endOrRestart_effects s

theorem addressWhole_effects {s : State} (free : s.fsc.resetHeld = false) (b : Byte) : EffectSeq s (s.addressWhole b) := by
  have lines : EffectSeq s (s.setLines { s.zbi.lines.clocked with inTransfer := true }) :=
    setLines_free rfl fun low => by cases h : s.zbi.lines.zcl <;> simp_all [BusLines.clocked]
  have whole := (lines.trans (address_effects (s := s.setLines { s.zbi.lines.clocked with inTransfer := true }) rfl b).1).trans
    (driveNext_effects _)
  unfold addressWhole
  cases s.zbi.transfer with
  | executing => exact .refl
  | idle | receiving | replyReady | replying | notAddressed => exact whole

/-! ### The lines below whole bytes (R159) -/

theorem startCondition_effects {s : State} (hold : s.zbi.lines.hold = none) : EffectSeq s s.startCondition := by
  have started : EffectSeq s (s.setLines { s.zbi.lines with inTransfer := true, addressing := true, bits := [], pullsZda := false }) :=
    setLines_kept rfl rfl rfl
  unfold startCondition
  cases s.zbi.transfer with
  | executing => exact .refl
  | receiving => exact started.trans (discardRequest_effects hold)
  | idle | replyReady | replying | notAddressed => exact started

theorem byteEnds_effects {s : State} (hold : s.zbi.lines.hold = none) (zcl : s.zbi.lines.zcl = false)
    (free : s.fsc.resetHeld = false) : EffectSeq s s.byteEnds := by
  cases sends : s.sending with
  | true =>
    simp only [byteEnds, sends, if_true]
    exact setLines_kept rfl rfl rfl
  | false =>
    rw [byteEnds_of_received sends]
    have acted : EffectSeq s (if s.zbi.lines.addressing then s.clocked.address (byteOfBits s.zbi.lines.bits)
          else s.clocked.receiveByte (byteOfBits s.zbi.lines.bits)) ∧
        KeepsLines s.clocked (if s.zbi.lines.addressing then s.clocked.address (byteOfBits s.zbi.lines.bits)
          else s.clocked.receiveByte (byteOfBits s.zbi.lines.bits)) := by
      split
      · exact ⟨(clocked_effects free).trans (address_effects rfl _).1, (address_effects rfl _).2⟩
      · exact ⟨(clocked_effects free).trans (receiveByte_effects rfl _).1, (receiveByte_effects rfl _).2⟩
    exact acted.1.trans (setLines_free hold fun _ => ⟨zcl, acted.2.2.trans free⟩)

theorem ackEnds_effects {s : State} (hold : s.zbi.lines.hold = none) (zcl : s.zbi.lines.zcl = false)
    (free : s.fsc.resetHeld = false) : EffectSeq s s.ackEnds := by
  have ended : EffectSeq s (s.setLines { s.zbi.lines with addressing := false, bits := [] }) := setLines_kept rfl rfl rfl
  unfold ackEnds
  split
  case h_1 executing => exact ended.trans (setLines_effect fun _ => ⟨fun _ => executing, by simp⟩)
  all_goals exact ended.trans (setLines_free hold fun _ => ⟨zcl, free⟩)

theorem clockFalls_effects {s : State} (hold : s.zbi.lines.hold = none) (zcl : s.zbi.lines.zcl = false)
    (free : s.fsc.resetHeld = false) : EffectSeq s s.clockFalls := by
  have begun : EffectSeq s (s.setLines { s.zbi.lines with low := some 0 }) := setLines_free hold fun _ => ⟨zcl, free⟩
  unfold clockFalls
  dsimp only
  split
  · exact begun.trans (setLines_kept rfl rfl rfl)
  split
  · exact begun.trans (byteEnds_effects (s := s.setLines { s.zbi.lines with low := some 0 }) hold zcl free)
  · exact begun.trans (ackEnds_effects (s := s.setLines { s.zbi.lines with low := some 0 }) hold zcl free)

/-- A rise of ZCL ends a stretch of ZCL low, whatever the levels driven before it. -/
theorem driven_clockRises_effects {s : State} (hold : s.zbi.lines.hold = none) (zcl zda : Bool) :
    EffectSeq s (s.driven zcl zda).clockRises := by
  have sampled (bits : List Bool) : EffectSeq s (s.setLines { s.zbi.lines with zcl, zda, bits, low := none }) :=
    setLines_free hold (by simp)
  unfold clockRises
  dsimp only
  split
  · exact (sampled _).trans (readReply_effects _ _ _)
  · exact sampled _

theorem clock_true {l : BusLines} (h : l.clock = true) : l.zcl = true ∧ l.hold = none := by simpa [BusLines.clock] using h

theorem linesChange_effects {s : State} (free : s.fsc.resetHeld = false) (zcl zda : Bool) :
    EffectSeq s (s.linesChange zcl zda) := by
  cases hold : s.zbi.lines.hold with
  | some n =>
    rw [linesChange_of_hold (by simp [hold])]
    refine setLines_effect fun sound => ⟨fun _ => sound.holding (by simp [hold]), fun low => ?_⟩
    exact absurd (sound.stretch low).2.1 (by simp [hold])
  | none =>
    cases before : s.zbi.lines.zcl with
    | false =>
      cases zcl with
      | false =>
        have still : s.linesChange false zda = s.driven false zda := by
          simp [linesChange, followLines, BusLines.change, BusLines.clock, before]
        rw [still]
        exact setLines_free hold fun low => ⟨rfl, free⟩
      | true =>
        rw [linesChange_of_rise before hold]
        exact driven_clockRises_effects hold true zda
    | true =>
      have driven (level : Bool) : EffectSeq s (s.driven level zda) := setLines_effect fun sound =>
        ⟨by simp [hold], fun low => absurd (sound.stretch low).1 (by simp [before])⟩
      cases zcl with
      | false =>
        rw [linesChange_of_fall before hold]
        exact (driven false).trans (clockFalls_effects (s := s.driven false zda) hold rfl free)
      | true =>
        refine (driven true).trans ?_
        unfold linesChange followLines
        have after : (s.driven true zda).zbi.lines.clock = true := by simp [BusLines.clock, hold]
        have high : s.zbi.lines.clock = true := by simp [BusLines.clock, hold, before]
        simp only [BusLines.change, after, high]
        cases s.zbi.lines.data <;> cases (s.driven true zda).zbi.lines.data <;>
          cases s.zbi.lines.inTransfer <;> simp only [if_true, Bool.false_eq_true, if_false]
        all_goals first
          | exact .refl
          | exact stopCondition_effects _
          | exact startCondition_effects (s := s.driven true zda) hold

/-- The release of ZCL: with the line released by others too it rises, and else a stretch begins (R163, R166). -/
theorem releaseClock_effects {s : State} (free : s.fsc.resetHeld = false) : EffectSeq s s.releaseClock := by
  unfold releaseClock
  split
  · exact .refl
  next n hold =>
  have released : EffectSeq s (s.setLines { s.zbi.lines with hold := none, low := if s.zbi.lines.zcl then none else some 0 }) :=
    setLines_free rfl fun low => by cases h : s.zbi.lines.zcl <;> simp_all
  refine released.trans ?_
  generalize ht : s.setLines { s.zbi.lines with hold := none, low := if s.zbi.lines.zcl then none else some 0 } = t
  have noHold : t.zbi.lines.hold = none := by rw [← ht]; rfl
  refine (leaveExecuting_effects noHold).trans ?_
  have lines : t.leaveExecuting.zbi.lines = t.zbi.lines := by unfold leaveExecuting; split <;> rfl
  have before : s.zbi.lines.clock = false := by simp [BusLines.clock, hold]
  unfold followLines
  simp only [BusLines.change, before]
  cases after : t.leaveExecuting.zbi.lines.clock with
  | false => exact .refl
  | true =>
    have same : t.leaveExecuting.driven t.leaveExecuting.zbi.lines.zcl t.leaveExecuting.zbi.lines.zda = t.leaveExecuting := rfl
    have rises := driven_clockRises_effects (s := t.leaveExecuting) (by rw [lines, noHold])
      t.leaveExecuting.zbi.lines.zcl t.leaveExecuting.zbi.lines.zda
    rwa [same] at rises

theorem pinEvent_effects {s : State} (free : s.fsc.resetHeld = false) (e : PinEvent) : EffectSeq s (s.pinEvent e) := by
  cases e with
  | address byte => exact addressWhole_effects free byte
  | byte value => exact (byteWritten_effects free value).1
  | lines zcl zda => exact linesChange_effects free zcl zda
  | released => exact releaseClock_effects free
  | shedn high => exact .single (.level s high)

theorem pinWhileHeld_effects {s : State} (held : s.fsc.resetHeld = true) (e : PinEvent) : EffectSeq s (s.pinWhileHeld e) := by
  cases e with
  | lines zcl zda =>
    refine setLines_effect fun sound => ⟨sound.holding, fun low => ?_⟩
    exact absurd (sound.stretch low).2.2 (by simp [held])
  | shedn high => exact .single (.level s high)
  | address byte | byte value | released => exact .refl

/-! ### Sensor links -/

theorem links_effects {s : State} {u : SensorLinks} (sensors : u.sensors = s.slu.sensors) (polling : u.polling = s.slu.polling)
    (settings : u.settings = s.slu.settings) : EffectSeq s (s.setSlu u) :=
  .single (.links ⟨sensors, polling, fun range => settings ▸ range⟩)

theorem pollExpiry_effects (s : State) (l : Fin 4) : EffectSeq s (s.pollExpiry l) := by
  unfold pollExpiry
  split
  · exact .refl
  dsimp only
  split
  · exact links_effects rfl rfl rfl
  split <;> exact links_effects rfl rfl rfl

theorem lineFalls_effects (s : State) (l : Fin 4) : EffectSeq s (s.setSlu (s.slu.lineFalls l)) := by
  unfold SensorLinks.lineFalls
  dsimp only
  split_ifs <;> exact links_effects rfl rfl rfl

theorem pollEvent_effects (s : State) (l : Fin 4) (e : PollEvent) : EffectSeq s (s.pollEvent l e) := by
  cases e with
  | expires => exact pollExpiry_effects s l
  | falls => exact lineFalls_effects s l
  | rises => exact links_effects rfl rfl rfl

theorem pollWhileHeld_effects (s : State) (l : Fin 4) (e : PollEvent) : EffectSeq s (s.pollWhileHeld l e) := by
  cases e with
  | expires => exact .refl
  | falls | rises => exact links_effects rfl rfl rfl

theorem endPoll_effects (s : State) (l : Fin 4) {outcome : Fin 4 → Sensor → Sensor × HandOff}
    (judged : ∀ p r, Judged r (outcome p r)) : EffectSeq s (s.endPoll l outcome) := by
  cases poll : s.slu.inFlight.get l with
  | none => rw [endPoll_none poll]
  | some q =>
    rw [endPoll_some poll]
    have ended : EffectSeq s (s.setSlu { s.slu with inFlight := s.slu.inFlight.set l none }) := links_effects rfl rfl rfl
    exact ended.tail (.judged (judged _ _))

theorem sampleOf_ok (high low : Byte) : sampleOk (sampleOf high low) := by
  have := high.isLt
  have := low.isLt
  refine ⟨?_, ?_, rfl⟩ <;> simp only [sampleOf] <;> omega

theorem judgeReply_valid {p : Fin 4} {c1 c2 c3 : RxChar} {x : Sample} {saturated : Bool}
    (h : judgeReply p c1 c2 c3 = .valid x saturated) : x = sampleOf c1.data c2.data := by
  unfold judgeReply at h
  split at h
  · cases h
  split at h
  · cases h
  split at h
  · cases h
  split at h <;> cases h <;> rfl

theorem replyOn_effects (s : State) (l : Fin 4) (c1 c2 c3 : RxChar) : EffectSeq s (s.replyOn l c1 c2 c3) := by
  have line : EffectSeq s (s.setSlu (s.slu.replyEnds l c3)) := links_effects rfl rfl rfl
  refine line.trans (endPoll_effects _ l fun p r => ?_)
  split
  next e _ => exact .error e
  next x saturated valid =>
    unfold timedReply at valid
    split at valid
    · exact .valid x saturated (judgeReply_valid valid ▸ sampleOf_ok _ _)
    · cases valid

theorem healthLimit_effects (s : State) (i : Fin 16) : EffectSeq s (s.healthLimit i) := by
  unfold healthLimit
  split
  · exact .single (.judged .timeout)
  · exact .refl

/-! ### Timers of the list and the sections, the store, the link -/

theorem holdOk_pred {h : Nat} (range : holdOk (some h)) (more : ¬h ≤ 1) : holdOk (some (h - 1)) := by
  have : h ≤ 65535 := range.2
  refine ⟨fun e => ?_, show h - 1 ≤ 65535 by omega⟩
  have := Option.some.inj e
  omega

theorem countDown_filtered (c : Section) : c.countDown.filtered = c.filtered := by
  unfold Section.countDown
  split
  · rfl
  · split <;> rfl

theorem sectionOk_countDown {c : Section} (range : sectionOk c) : sectionOk c.countDown := by
  obtain ⟨filtered, shift, hold, unknown⟩ := range
  unfold Section.countDown
  split
  · exact ⟨filtered, shift, hold, unknown⟩
  next h held =>
  split
  · exact ⟨filtered, shift, ⟨nofun, Nat.zero_le _⟩, fun _ => rfl⟩
  · next more => exact ⟨filtered, shift, holdOk_pred (held ▸ hold) more, fun none => absurd (unknown none) (by simp [held])⟩

theorem dleSecond_effects (s : State) : EffectSeq s s.dleSecond := by
  unfold dleSecond
  split
  · exact .refl
  next n running =>
  refine .single (.daylight ⟨by simp [running], fun i => ?_, fun i range => ?_, fun h => h⟩) <;> rw [Table.get_map]
  · exact countDown_filtered _
  · exact sectionOk_countDown range

theorem finishSave_effects (s : State) : EffectSeq s s.finishSave := by
  unfold finishSave
  split
  · exact .refl
  · exact .single (.store rfl)

theorem completeIf_effects (s : State) (p : Flight → Bool) : EffectSeq s (s.completeIf p) := by
  unfold completeIf
  split
  · exact .refl
  split
  · exact .single (.complete s)
  · exact .refl

theorem loadDone_effects {s : State} (free : s.fsc.resetHeld = false) : EffectSeq s s.loadDone := by
  unfold loadDone
  split
  · exact .refl
  · next n loading => exact .single (.load free (by simp [loading]))

theorem releaseReset_effects (s : State) : EffectSeq s s.releaseReset := by
  unfold releaseReset
  split
  · exact .single (.fullReset s)
  · exact .refl

/-! ### Every command -/

/-- The command answers a next state, reached by effects. -/
def Runs (s : State) (r : Host.Outcome State Fault Refusal) : Prop := ∃ t, r = .next t ∧ EffectSeq s t

theorem unlessHeld_runs {s : State} {f : State → State} (h : s.fsc.resetHeld = false → EffectSeq s (f s)) :
    Runs s (unlessHeld f s) := by
  cases held : s.fsc.resetHeld with
  | true => exact ⟨s, unlessHeld_held held f, .refl⟩
  | false => exact ⟨f s, unlessHeld_free held f, h held⟩

theorem request_runs (code source : Byte) (p : List Byte) (s : State) : Runs s (request code source p s) :=
  unlessHeld_runs fun free => bytesWritten_effects _ free

/-- Every command answers a next state, by a sequence of effects. -/
theorem exec_runs (c : Instr) (s : State) : Runs s (exec c s) := by
  cases c with
  | powerOn => exact ⟨_, rfl, .single (.fullReset s)⟩
  | rstnLow => exact ⟨_, rfl, .single (.holdReset s)⟩
  | rstnRelease => exact ⟨_, rfl, releaseReset_effects s⟩
  | loadComplete => exact unlessHeld_runs loadDone_effects
  | shednAsserted => exact unlessHeld_runs fun _ => .single (.lineLow s)
  | shednReleased => exact unlessHeld_runs fun _ => .single (.lineHigh s)
  | addressByte e =>
    refine ⟨_, rfl, ?_⟩
    split
    · next held => exact pinWhileHeld_effects held e
    · next free => exact pinEvent_effects (by simpa using free) e
  | requestDiscarded source code length p check => exact unlessHeld_runs (f := fun s => s.bytesWritten _) fun free => bytesWritten_effects _ free
  | stop => exact unlessHeld_runs stopWhole_effects
  | clockLowTimeout => exact unlessHeld_runs fun _ => clockLow_effects s
  | replyRead n ackLast => exact unlessHeld_runs (f := fun s => s.readWhole n ackLast) fun free => readWhole_effects free n ackLast
  | saveComplete => exact unlessHeld_runs fun _ => finishSave_effects s
  | pollTimer l e =>
    refine ⟨_, rfl, ?_⟩
    split
    · exact pollWhileHeld_effects s l e
    · exact pollEvent_effects s l e
  | sensorReply l c1 c2 c3 => exact unlessHeld_runs (f := fun s => s.replyOn l c1 c2 c3) fun _ => replyOn_effects s l c1 c2 c3
  | noReply l => exact unlessHeld_runs (f := fun s => s.noReplyOn l) fun _ => endPoll_effects s l fun _ _ => .error _
  | healthTimeout i => exact unlessHeld_runs (f := fun s => s.healthLimit i) fun _ => healthLimit_effects s i
  | dleOneSecondTimer => exact unlessHeld_runs fun _ => dleSecond_effects s
  | rluOneSecondTimer => exact unlessHeld_runs fun _ => .single (.rluSecond s)
  | freezeTimerExpiry r => exact unlessHeld_runs (f := fun s => s.unfreezeRows _) fun _ => .single (.thaw s _)
  | fadeEvent => exact unlessHeld_runs fun _ => .single (.fade s)
  | initGroupComplete | burstComplete | allTouchComplete | shedFrameComplete | cutFrameComplete =>
    exact unlessHeld_runs (f := fun s => s.completeIf _) fun _ => completeIf_effects s _
  | rowDue r => exact unlessHeld_runs (f := fun s => s.rowBecomesDue r) fun _ => .single (.due s r)
  | reInitTimer => exact unlessHeld_runs fun _ => .single (.reInit s)
  | setTarget a p | setFixed a p | setCap a p | release a p | releaseOwn a p | releaseSlot a p | blindStep a p | readCells a p
  | readSections a p | readRequests a p | readStatus a p | readSensors a p | clearShortfall a p | writeCellField a p
  | writeRow a p | calApply a p | writeMasterSlot a p | writeBlindTable a p | writeProfile a p | writeSensor a p
  | writeLinks a p | writePart a p | saveSettings a p | restart a p | night a p | day a p | shed a p | shedClear a p =>
    exact request_runs _ a p s
  | requestWithUnknownCode code a p => exact request_runs code a p s

theorem exec_effects {c : Instr} {s t : State} (h : exec c s = .next t) : EffectSeq s t := by
  obtain ⟨u, hu, seq⟩ := exec_runs c s
  rw [h] at hu
  cases hu
  exact seq

end Sys2Proof.Proofs.Effects
end

section
/-! PROOF. What the luminaire-link operations leave in the link itself, said once each. -/

namespace Sys2Proof.Machine.State

/-! ### Selections and prompts -/

@[simp] theorem startBurst_llc (s : State) (r : Fin 8) :
    (s.startBurst r).llc = { s.llc.start (s.stageBurst r) with queue := s.llc.queue.filter (· ≠ r) } := rfl

/-- What a selection never touches. -/
theorem select_link (s : State) :
    s.select.llc.state = s.llc.state ∧ s.select.llc.taken = s.llc.taken ∧ s.select.llc.ages = s.llc.ages ∧
      s.select.llc.interval = s.llc.interval ∧ s.select.llc.pendingInterval = s.llc.pendingInterval ∧
      s.select.llc.reInit = s.llc.reInit ∧ (s.select.llc.queue).Sublist s.llc.queue := by
  rw [select_eq]
  split_ifs
  case neg =>
    split
    · split_ifs
      · exact ⟨rfl, rfl, rfl, rfl, rfl, rfl, List.filter_sublist⟩
      · exact ⟨rfl, rfl, rfl, rfl, rfl, rfl, .refl _⟩
    · split
      · exact ⟨rfl, rfl, rfl, rfl, rfl, rfl, List.filter_sublist⟩
      · exact ⟨rfl, rfl, rfl, rfl, rfl, rfl, .refl _⟩
  all_goals exact ⟨rfl, rfl, rfl, rfl, rfl, rfl, .refl _⟩

theorem prompt_link (s : State) :
    s.prompt.llc.state = s.llc.state ∧ s.prompt.llc.taken = s.llc.taken ∧ s.prompt.llc.ages = s.llc.ages ∧
      s.prompt.llc.interval = s.llc.interval ∧ s.prompt.llc.pendingInterval = s.llc.pendingInterval ∧
      s.prompt.llc.reInit = s.llc.reInit ∧ (s.prompt.llc.queue).Sublist s.llc.queue := by
  unfold prompt
  split
  · exact select_link s
  · exact ⟨rfl, rfl, rfl, rfl, rfl, rfl, .refl _⟩

@[simp] theorem prompt_state (s : State) : s.prompt.llc.state = s.llc.state := (prompt_link s).1
@[simp] theorem prompt_taken (s : State) : s.prompt.llc.taken = s.llc.taken := (prompt_link s).2.1
@[simp] theorem prompt_ages (s : State) : s.prompt.llc.ages = s.llc.ages := (prompt_link s).2.2.1
@[simp] theorem prompt_interval (s : State) : s.prompt.llc.interval = s.llc.interval := (prompt_link s).2.2.2.1
@[simp] theorem prompt_pendingInterval (s : State) : s.prompt.llc.pendingInterval = s.llc.pendingInterval :=
  (prompt_link s).2.2.2.2.1
@[simp] theorem prompt_reInit (s : State) : s.prompt.llc.reInit = s.llc.reInit := (prompt_link s).2.2.2.2.2.1
theorem prompt_queue (s : State) : (s.prompt.llc.queue).Sublist s.llc.queue := (prompt_link s).2.2.2.2.2.2

/-- Outside RUN a prompt does nothing. -/
theorem prompt_of_ne {s : State} (h : s.llc.state ≠ .run) : s.prompt = s := prompt_busy fun idle => h idle.1

/-- A frame in flight makes a prompt do nothing. -/
theorem prompt_of_flight {s : State} (h : s.llc.flight ≠ none) : s.prompt = s := prompt_busy fun idle => h idle.2

/-! ### Posting, touching, and the pending interval -/

/-- Every configured row that `p` picks and that is not queued is appended in ascending order (R113, R125). -/
theorem postRows_llc (s : State) (p : Fin 8 → Bool) :
    (s.postRows p).llc = { s.llc with
      queue := s.llc.queue ++ (allRows.filter fun r => s.ct.configured r && p r).filter fun r => !s.llc.queue.contains r } := by
  show (allRows.filter fun r => s.ct.configured r && p r).foldl LuminaireLink.post s.llc = _
  rw [foldl_post_eq, foldl_post_queue _ _ (List.Nodup.filter (l := allRows) _ (List.nodup_finRange 8))]

@[simp] theorem touchAll_llc (s : State) :
    s.touchAll.llc = { s.llc with
      ages := .ofFn fun r : Fin 8 => if s.ct.configured r then some 0 else s.llc.ages.get r } := rfl

@[simp] theorem applyInterval_llc (s : State) :
    s.applyInterval.llc =
      { s.llc with interval := s.llc.pendingInterval.getD s.llc.interval, pendingInterval := none } := by
  unfold applyInterval
  split
  · next none =>
    rcases s with ⟨_, _, _, _, _, _, ⟨_, _, _, _, _, _, _, _, pendingInterval, _⟩, _, _, _, _⟩
    obtain rfl : pendingInterval = .none := none
    rfl
  · next v some => simp [some]

/-! ### Completions -/

/-- The taken levels after a burst of row `r` (R129). -/
def burstTaken (s : State) (r : Fin 8) (first : Nat) (bays : List StagedBay) (c : Fin 256) : Option Nat :=
  if rowOf c = r ∧ s.ct.present c = true then
    match stagedAt first bays (bayOf c) with
    | some b => if b.staged then some b.level else s.llc.taken.get c
    | none => s.llc.taken.get c
  else s.llc.taken.get c

/-- The link after a burst of row `r`, but for the posting of a row that still differs (R129). -/
def burstRecorded (s : State) (r : Fin 8) (first : Nat) (bays : List StagedBay) : State :=
  s.setLlc { s.llc with
    taken := .ofFn (s.burstTaken r first bays),
    ages := if s.ct.configured r then s.llc.ages.set r (some 0) else s.llc.ages }

theorem burstDone_eq (s : State) (r : Fin 8) (first : Nat) (bays : List StagedBay) :
    s.burstDone r first bays =
      if s.ct.configured r && (s.burstRecorded r first bays).rowDiffers r then
        (s.burstRecorded r first bays).setLlc ((s.burstRecorded r first bays).llc.post r)
      else s.burstRecorded r first bays := rfl

theorem initDone_of_init {s : State} (h : s.llc.state = .init) :
    s.initDone =
      ((((s.setLlc { s.llc with taken := .const none 8 }).postRows fun _ => true).setLlc
          { ((s.setLlc { s.llc with taken := .const none 8 }).postRows fun _ => true).llc with
            state := .run, reInit := some 0 }).setFdu { s.fdu with timer := some 0 }).setFsc { s.fsc with part := .run } := by
  simp [initDone, h]

theorem initDone_of_ne {s : State} (h : s.llc.state ≠ .init) :
    s.initDone = (s.setLlc { s.llc with taken := .const none 8 }).postRows fun _ => true := by
  simp [initDone, h]

/-- What the effects of a frame's completion leave of the link outside INIT. -/
theorem frameDone_link {s : State} (h : s.llc.state ≠ .init) (f : Frame) :
    (s.frameDone f).llc.state = s.llc.state ∧ (s.frameDone f).llc.reInit = s.llc.reInit ∧
      (s.frameDone f).fdu = s.fdu ∧ (s.frameDone f).fsc = s.fsc := by
  cases f with
  | initGroup => simp [frameDone, initDone_of_ne h, postRows_llc]
  | burst r first bays =>
    simp only [frameDone, burstDone_eq]
    split
    · rw [post_eq]
      exact ⟨rfl, rfl, rfl, rfl⟩
    · exact ⟨rfl, rfl, rfl, rfl⟩
  | allTouch => simp [frameDone]
  | shed levels => simp [frameDone, shedDone]

theorem cutDone_link (s : State) (f : Frame) :
    (s.cutDone f).llc.state = s.llc.state ∧ (s.cutDone f).llc.reInit = s.llc.reInit := by
  cases f with
  | burst r first bays =>
    simp only [cutDone]
    split
    · rw [post_eq]
      exact ⟨rfl, rfl⟩
    · exact ⟨rfl, rfl⟩
  | initGroup | allTouch | shed levels => exact ⟨rfl, rfl⟩

@[simp] theorem freeLink_state (s : State) : s.freeLink.llc.state = s.llc.state := by simp [freeLink]
@[simp] theorem freeLink_reInit (s : State) : s.freeLink.llc.reInit = s.llc.reInit := by simp [freeLink]
@[simp] theorem freeLink_taken (s : State) : s.freeLink.llc.taken = s.llc.taken := by simp [freeLink]
@[simp] theorem freeLink_ages (s : State) : s.freeLink.llc.ages = s.llc.ages := by simp [freeLink]
@[simp] theorem freeLink_interval (s : State) : s.freeLink.llc.interval = s.llc.interval := by simp [freeLink]
@[simp] theorem freeLink_pendingInterval (s : State) : s.freeLink.llc.pendingInterval = s.llc.pendingInterval := by
  simp [freeLink]
theorem freeLink_queue (s : State) : (s.freeLink.llc.queue).Sublist s.llc.queue := prompt_queue _

theorem complete_of_flight {s : State} {f : Flight} (h : s.llc.flight = some f) :
    s.complete = (if f.cut then s.cutDone f.frame else s.frameDone f.frame).freeLink := by simp [complete, h]

theorem complete_of_none {s : State} (h : s.llc.flight = none) : s.complete = s := by simp [complete, h]

/-- Outside INIT a completion leaves the link's state and the FSC and FDU as they are. -/
theorem complete_link {s : State} (h : s.llc.state ≠ .init) :
    s.complete.llc.state = s.llc.state ∧ s.complete.llc.reInit = s.llc.reInit ∧ s.complete.fdu = s.fdu ∧
      s.complete.fsc = s.fsc := by
  cases flight : s.llc.flight with
  | none => rw [complete_of_none flight]; exact ⟨rfl, rfl, rfl, rfl⟩
  | some f =>
    rw [complete_of_flight flight]
    split
    · obtain ⟨state, reInit⟩ := cutDone_link s f.frame
      simp [state, reInit]
    · obtain ⟨state, reInit, fdu, fsc⟩ := frameDone_link h f.frame
      simp [state, reInit, fdu, fsc]

/-! ### The cut and the shed latch -/

theorem setLlc_flight_self {s : State} {x : Option Flight} (h : x = s.llc.flight) : s.setLlc { s.llc with flight := x } = s := by
  rw [h]; rfl

theorem cutFrame_eq (s : State) :
    s.cutFrame = s.setLlc { s.llc with
      flight := if s.llc.state = .run then s.llc.flight.map fun f => if cuttable f then cutFlight f else f else s.llc.flight } := by
  unfold cutFrame
  split
  · next f state flight =>
    rw [if_pos state]
    split
    · next cut => simp [flight, cut]
    · next uncut => exact (setLlc_flight_self (by simp [flight, uncut])).symm
  · next none =>
    refine (setLlc_flight_self ?_).symm
    split
    · next state =>
      cases flight : s.llc.flight with
      | none => rfl
      | some f => exact absurd flight (none f state)
    · rfl

@[simp] theorem raiseShed_state (s : State) : s.raiseShed.llc.state = s.llc.state := by simp [raiseShed]
@[simp] theorem raiseShed_taken (s : State) : s.raiseShed.llc.taken = s.llc.taken := by simp [raiseShed]
@[simp] theorem raiseShed_ages (s : State) : s.raiseShed.llc.ages = s.llc.ages := by simp [raiseShed]
@[simp] theorem raiseShed_interval (s : State) : s.raiseShed.llc.interval = s.llc.interval := by simp [raiseShed]
@[simp] theorem raiseShed_pendingInterval (s : State) : s.raiseShed.llc.pendingInterval = s.llc.pendingInterval := by
  simp [raiseShed]
@[simp] theorem raiseShed_reInit (s : State) : s.raiseShed.llc.reInit = s.llc.reInit := by simp [raiseShed]
theorem raiseShed_queue (s : State) : (s.raiseShed.llc.queue).Sublist s.llc.queue := prompt_queue _

/-- The state in which the latch's setting prompts the link (R151). -/
def latched (s : State) : State := ((s.setFsc { s.fsc with latch := true }).clampFades fun _ => true).cutFrame

theorem setLatch_of_clear {s : State} (h : s.fsc.latch = false) : s.setLatch = s.latched.raiseShed := by simp [setLatch, h, latched]

theorem setLatch_of_set {s : State} (h : s.fsc.latch = true) : s.setLatch = s := by simp [setLatch, h]

@[simp] theorem latched_ct (s : State) : s.latched.ct = s.ct := by simp [latched]
@[simp] theorem latched_fsc (s : State) : s.latched.fsc = { s.fsc with latch := true } := by simp [latched]
theorem latched_fdu (s : State) : s.latched.fdu = (s.clampFades fun _ => true).fdu := by simp [latched]; rfl
theorem latched_llc (s : State) :
    s.latched.llc = { s.llc with
      flight := if s.llc.state = .run then s.llc.flight.map fun f => if cuttable f then cutFlight f else f else s.llc.flight } := by
  rw [latched, cutFrame_eq]; rfl

/-- What the latch's setting leaves of the link. -/
theorem setLatch_link (s : State) :
    s.setLatch.llc.state = s.llc.state ∧ s.setLatch.llc.taken = s.llc.taken ∧ s.setLatch.llc.ages = s.llc.ages ∧
      s.setLatch.llc.interval = s.llc.interval ∧ s.setLatch.llc.pendingInterval = s.llc.pendingInterval ∧
      s.setLatch.llc.reInit = s.llc.reInit ∧ (s.setLatch.llc.queue).Sublist s.llc.queue := by
  cases latch : s.fsc.latch with
  | true => rw [setLatch_of_set latch]; exact ⟨rfl, rfl, rfl, rfl, rfl, rfl, .refl _⟩
  | false =>
    rw [setLatch_of_clear latch]
    have queue := raiseShed_queue s.latched
    simp only [latched_llc] at queue
    simp [latched_llc, queue]

end Sys2Proof.Machine.State
end

section
/-! PROOF. From effects to steps: what every command's effects keep, and the ticks of the part's clock too, every step keeps. -/

namespace Sys2Proof.Proofs.Effects

open Sys2Proof.Machine Sys2Proof.Machine.State

/-! ### The queue -/

theorem Effect.pending {s t : State} (e : Effect s t) : t.pending = s.pending := by
  cases e with
  | judged => rfl
  | cells w => unfold CellWrite.apply; dsimp only; split <;> simp
  | _ => first | rfl | simp

theorem EffectSeq.pending {s t : State} (e : EffectSeq s t) : t.pending = s.pending := by
  induction e with
  | refl => rfl
  | tail _ step ih => exact step.pending.trans ih

/-- Settles O3: every command is a sequence of effects, and none of them touches the queue. -/
theorem everyCommandCompletesAndKeepsQueue : Obligations.EveryCommandCompletesAndKeepsQueue := fun c s =>
  (exec_runs c s).imp fun _ h => ⟨h.1, h.2.pending⟩

/-- Settles O1: a step looks at the queue first. -/
theorem stepTakesFrontCommand : Obligations.StepTakesFrontCommand := by
  intro c rest s front
  simp only [step, front]

/-! ### Steps -/

theorem happen_effects (c : Instr) (s : State) : EffectSeq s (s.happen c) := by
  obtain ⟨t, ht, seq⟩ := exec_runs c s
  rwa [happen_eq ht]

theorem step_of_idle {s : State} (h : s.pending = []) : step s = .next s.tick := by simp only [step, h]

theorem tick_held {s : State} (h : s.fsc.resetHeld = true) : s.tick = s := by simp [tick, h]

theorem tick_free {s : State} (h : s.fsc.resetHeld = false) : s.tick = s.advance.dueNow.foldl happen s.advance := by
  simp [tick, h]

/-- The two kinds of step: a command from the queue, or one tick. -/
theorem step_cases {s t : State} (h : step s = .next t) :
    (∃ rest, EffectSeq (s.setPending rest) t) ∨ t = s.tick := by
  unfold step at h
  split at h
  · cases h; exact .inr rfl
  · next c rest _ => exact .inl ⟨rest, exec_effects h⟩

/-- What no queue can break, every effect keeps, and a tick's counting keeps, every step keeps. -/
theorem step_keeps {P : State → Prop} (queue : ∀ s l, P s → P (s.setPending l)) (effect : ∀ s t, Effect s t → P s → P t)
    (advance : ∀ s, s.fsc.resetHeld = false → P s → P s.advance) {s t : State} (h : step s = .next t) (hs : P s) : P t := by
  rcases step_cases h with ⟨rest, seq⟩ | rfl
  · exact seq.keeps effect (queue s rest hs)
  cases held : s.fsc.resetHeld with
  | true => rwa [tick_held held]
  | false =>
    rw [tick_free held]
    exact List.foldlRecOn _ _ (advance s held hs) fun u hu c _ => (happen_effects c u).keeps effect hu

end Sys2Proof.Proofs.Effects
end

section
/-! PROOF. Every effect keeps the order of start-up (O6). -/

namespace Sys2Proof.Proofs.StartUp

open Sys2Proof.Machine Sys2Proof.Machine.State Sys2Proof.Proofs.Effects

theorem busSound {s : State} (h : s.StartUp) : BusSound s.fsc s.zbi :=
  ⟨h.receiving, h.holding, h.stretch, h.deaf, h.noPending⟩

/-- What start-up asks of the frame in flight before RUN. -/
def shape (l : LuminaireLink) : Option (Frame × Nat × Bool) := l.flight.map fun f => (f.frame, f.ends, f.cut)

/-- The order of start-up survives where the phase of the part and its timers stand, and nothing is lit, listed or queued anew. -/
theorem startUp_frame {s t : State} (h : s.StartUp)
    (starting : t.fsc.part = .starting ↔ s.fsc.part = .starting := by simp)
    (held : t.fsc.resetHeld = s.fsc.resetHeld := by simp)
    (loading : t.sst.loading.isSome = s.sst.loading.isSome := by simp)
    (state : t.llc.state = s.llc.state := by simp)
    (reInit : t.llc.reInit.isSome = s.llc.reInit.isSome := by simp)
    (flight : s.llc.state ≠ .run → shape t.llc = shape s.llc := by simp)
    (fade : t.fdu.timer.isSome = s.fdu.timer.isSome := by simp)
    (list : t.rlu.timer.isSome = s.rlu.timer.isSome := by simp)
    (sections : t.dle.timer.isSome = s.dle.timer.isSome := by simp)
    (polling : (s.slu.polling = true ↔ (s.llc.state ≠ .off ∧ s.fsc.part ≠ .standby)) →
      (t.slu.polling = true ↔ (s.llc.state ≠ .off ∧ t.fsc.part ≠ .standby)) := by simp)
    (bus : BusSound s.fsc s.zbi → BusSound t.fsc t.zbi := by simp)
    (entries : s.fsc.part = .starting → s.rlu.list = [] → t.rlu.list = [] := by simp)
    (rows : s.llc.queue = [] → t.llc.queue = [] := by simp)
    (fades : s.fsc.part = .starting → ∀ c : Fin 256, s.fdu.levels.get c = none → t.fdu.levels.get c = none := by simp)
    (taken : s.fsc.part = .starting → ∀ c : Fin 256, s.llc.taken.get c = none → t.llc.taken.get c = none := by simp)
    (lau : s.fsc.part = .starting → ∀ c : Fin 256, s.lau.cells.get c = .cleared → t.lau.cells.get c = .cleared := by simp) :
    t.StartUp := by
  have sound := bus (busSound h)
  have noLoading : t.sst.loading = none ↔ s.sst.loading = none := by
    rw [← Option.isNone_iff_eq_none, ← Option.isNone_iff_eq_none, ← Option.not_isSome, ← Option.not_isSome, loading]
  exact
    { starting := by rw [starting, state, h.starting]
      off := by rw [state, loading, held, h.off]
      held := by rw [held, noLoading]; exact h.held
      fadeTimer := by rw [fade, state, h.fadeTimer]
      reInitTimer := by rw [reInit, state, h.reInitTimer]
      listTimer := by rw [list, state, h.listTimer]
      sectionTimer := by rw [sections, state, h.sectionTimer]
      polling := by rw [state]; exact polling h.polling
      silent := fun off => by
        have none : shape s.llc = none := by simp [shape, h.silent (state ▸ off)]
        have := flight (by rw [← state, off]; simp)
        simpa [shape, none] using this.trans none
      initGroup := fun init => (flight (by rw [← state, init]; simp)).trans (h.initGroup (state ▸ init))
      receiving := sound.receiving
      holding := sound.holding
      stretch := sound.stretch
      deaf := sound.deaf
      noPending := sound.noPending
      noEntries := fun first => entries (starting.mp first) (h.noEntries (starting.mp first))
      noRows := fun first => rows (h.noRows (starting.mp first))
      dark := fun first c =>
        have ⟨level, took, record⟩ := h.dark (starting.mp first) c
        ⟨fades (starting.mp first) c level, taken (starting.mp first) c took, lau (starting.mp first) c record⟩ }

theorem shape_eq {l m : LuminaireLink} (h : l.flight = m.flight) : shape l = shape m := by rw [shape, shape, h]

/-! ### Resets and the load -/

theorem busSound_reset (f : Floor) (l : BusLines) (hold : l.hold = none) (low : l.low = none) :
    BusSound f { State.reset.zbi with lines := l } :=
  ⟨⟨nofun, nofun⟩, by simp [hold], by simp [low], fun _ => .inl rfl, fun _ => ⟨rfl, rfl⟩⟩

/-- A state with every block at its reset values but for the load, the hold of RSTn and the lines others drive. -/
theorem startUp_of_reset {t : State} (held : Bool) (llc : t.llc = State.reset.llc) (fdu : t.fdu = State.reset.fdu)
    (rlu : t.rlu = State.reset.rlu) (dle : t.dle = State.reset.dle) (lau : t.lau = State.reset.lau)
    (polling : t.slu.polling = false) (part : t.fsc.part = .starting) (resetHeld : t.fsc.resetHeld = held)
    (loading : t.sst.loading = if held then none else some 0)
    (zbi : ∃ l : BusLines, l.hold = none ∧ l.low = none ∧ t.zbi = { State.reset.zbi with lines := l }) : t.StartUp := by
  obtain ⟨l, hold, low, zbi⟩ := zbi
  have sound : BusSound t.fsc t.zbi := zbi ▸ busSound_reset t.fsc l hold low
  have off : t.llc.state = .off := by rw [llc]; rfl
  exact
    { starting := by simp [part, off]
      off := by cases held <;> simp [off, loading, resetHeld]
      held := by cases held <;> simp [loading, resetHeld]
      fadeTimer := by rw [fdu, off]; decide
      reInitTimer := by rw [llc]; decide
      listTimer := by rw [rlu, off]; decide
      sectionTimer := by rw [dle, off]; decide
      polling := by simp [polling, off]
      silent := fun _ => by rw [llc]; rfl
      initGroup := by simp [off]
      receiving := sound.receiving
      holding := sound.holding
      stretch := sound.stretch
      deaf := sound.deaf
      noPending := sound.noPending
      noEntries := fun _ => by rw [rlu]; rfl
      noRows := fun _ => by rw [llc]; rfl
      dark := fun _ c => by rw [fdu, llc, lau]; exact ⟨Table.get_const _ _, Table.get_const _ _, Table.get_const _ _⟩ }

theorem startUp_fullReset (s : State) : s.fullReset.StartUp :=
  startUp_of_reset false rfl rfl rfl rfl rfl rfl rfl rfl rfl ⟨_, rfl, rfl, rfl⟩

theorem startUp_holdReset (s : State) : s.holdReset.StartUp :=
  startUp_of_reset true rfl rfl rfl rfl rfl rfl rfl rfl rfl ⟨_, rfl, rfl, rfl⟩

theorem startUp_finishLoad {s : State} (h : s.StartUp) (free : s.fsc.resetHeld = false)
    (loading : s.sst.loading.isSome = true) : s.finishLoad.StartUp := by
  have off : s.llc.state = .off := h.off.mpr (.inl loading)
  have starting : s.fsc.part = .starting := h.starting.mpr (by simp [off])
  have zbi : s.finishLoad.zbi = { s.zbi with slots := s.loaded.slots, own := s.loaded.own } := rfl
  have fsc : s.finishLoad.fsc = s.fsc := rfl
  have state : s.finishLoad.llc.state = .init := rfl
  exact
    { starting := by simp [fsc, starting, state]
      off := by rw [state, fsc, free]; exact ⟨nofun, fun h => h.elim nofun nofun⟩
      held := by simp [fsc, free]
      fadeTimer := by
        have : s.finishLoad.fdu.timer = s.fdu.timer := rfl
        rw [this, h.fadeTimer, off, state]; decide
      reInitTimer := by
        have : s.finishLoad.llc.reInit = s.llc.reInit := rfl
        rw [this, h.reInitTimer, off, state]; decide
      listTimer := by rw [state]; exact ⟨nofun, fun _ => rfl⟩
      sectionTimer := by rw [state]; exact ⟨nofun, fun _ => rfl⟩
      polling := by rw [state, fsc, starting]; exact ⟨fun _ => ⟨nofun, nofun⟩, fun _ => rfl⟩
      silent := by simp [state]
      initGroup := fun _ => rfl
      receiving := h.receiving
      holding := h.holding
      stretch := h.stretch
      deaf := h.deaf
      noPending := h.noPending
      noEntries := h.noEntries
      noRows := h.noRows
      dark := h.dark }

/-! ### The link -/

/-- Once the link is in RUN the rest of start-up is the timers and the bus. -/
theorem startUp_of_run {t : State} (state : t.llc.state = .run) (part : t.fsc.part ≠ .starting)
    (loading : t.sst.loading = none) (free : t.fsc.resetHeld = false) (fade : t.fdu.timer.isSome = true)
    (reInit : t.llc.reInit.isSome = true) (list : t.rlu.timer.isSome = true) (sections : t.dle.timer.isSome = true)
    (polling : t.slu.polling = true ↔ t.fsc.part ≠ .standby) (sound : BusSound t.fsc t.zbi) : t.StartUp :=
  { starting := by simp [part, state]
    off := by simp [state, loading, free]
    held := by simp [free]
    fadeTimer := by simp [fade, state]
    reInitTimer := by simp [reInit, state]
    listTimer := by simp [list, state]
    sectionTimer := by simp [sections, state]
    polling := by simp [polling, state]
    silent := by simp [state]
    initGroup := by simp [state]
    receiving := sound.receiving
    holding := sound.holding
    stretch := sound.stretch
    deaf := sound.deaf
    noPending := sound.noPending
    noEntries := fun h => absurd h part
    noRows := fun h => absurd h part
    dark := fun h => absurd h part }

theorem part_of_run {s : State} (h : s.StartUp) (run : s.llc.state = .run) : s.fsc.part ≠ .starting :=
  fun starting => h.starting.mp starting run

theorem free_of_ne_off {s : State} (h : s.StartUp) (on : s.llc.state ≠ .off) :
    s.sst.loading = none ∧ s.fsc.resetHeld = false := by
  have := mt h.off.mpr on
  simp only [not_or, Bool.not_eq_true, Option.isSome_eq_false_iff, Option.isNone_iff_eq_none] at this
  exact this

/-- In RUN a change that leaves the timers running and the phase standing is all that start-up asks. -/
theorem startUp_frame_run {s t : State} (h : s.StartUp) (run : s.llc.state = .run) (state : t.llc.state = s.llc.state)
    (reInit : t.llc.reInit.isSome = s.llc.reInit.isSome) (fade : t.fdu.timer.isSome = s.fdu.timer.isSome)
    (fsc : t.fsc = s.fsc := by simp) (sst : t.sst = s.sst := by simp) (list : t.rlu = s.rlu := by simp)
    (sections : t.dle = s.dle := by simp) (slu : t.slu = s.slu := by simp) (zbi : t.zbi = s.zbi := by simp) : t.StartUp := by
  obtain ⟨loading, free⟩ := free_of_ne_off h (by simp [run])
  refine startUp_of_run (state.trans run) (fsc ▸ part_of_run h run) (sst ▸ loading) (fsc ▸ free) (fade.trans (h.fadeTimer.mpr run))
    (reInit.trans (h.reInitTimer.mpr run)) (list ▸ h.listTimer.mpr (by simp [run]))
    (sections ▸ h.sectionTimer.mpr (by simp [run])) ?_ (by rw [fsc, zbi]; exact busSound h)
  rw [slu, fsc, h.polling]
  simp [run]

theorem startUp_prompt {s : State} (h : s.StartUp) : s.prompt.StartUp := by
  by_cases run : s.llc.state = .run
  · exact startUp_frame_run h run (by simp) (by simp) (by simp)
  · rwa [prompt_of_ne run]

theorem startUp_complete {s : State} (h : s.StartUp) : s.complete.StartUp := by
  by_cases init : s.llc.state = .init
  · obtain ⟨loading, free⟩ := free_of_ne_off h (by simp [init])
    have starting : s.fsc.part = .starting := h.starting.mpr (by simp [init])
    obtain ⟨f, flight, group⟩ : ∃ f, s.llc.flight = some f ∧ (f.frame, f.ends, f.cut) = (.initGroup, Timing.frame .initGroup, false) := by
      simpa using h.initGroup init
    obtain ⟨frame, -, cut⟩ : f.frame = .initGroup ∧ f.ends = Timing.frame .initGroup ∧ f.cut = false := by simpa using group
    have done : s.complete = s.initDone.freeLink := by simp [complete_of_flight flight, cut, frame, frameDone]
    rw [done, initDone_of_init init]
    have sound := busSound h
    refine startUp_of_run (by simp) (by simp) (by simpa using loading) (by simpa using free) (by simp) (by simp)
      (by simpa using h.listTimer.mpr (by simp [init])) (by simpa using h.sectionTimer.mpr (by simp [init])) ?_ ?_
    · simpa using h.polling.mpr (by simp [init, starting])
    · simpa using (show BusSound { s.fsc with part := .run } s.zbi from
        ⟨sound.receiving, sound.holding, sound.stretch, nofun, nofun⟩)
  · obtain ⟨state, reInit, fdu, fsc⟩ := complete_link init
    by_cases run : s.llc.state = .run
    · exact startUp_frame_run h run state (by rw [reInit]) (by rw [fdu]) fsc
    · have off : s.llc.state = .off := by cases hs : s.llc.state <;> simp_all
      rwa [complete_of_none (h.silent off)]

theorem startUp_fade {s : State} (h : s.StartUp) : s.fade.StartUp := by
  unfold fade
  split
  · exact h
  next n running =>
  have run : s.llc.state = .run := h.fadeTimer.mp (by simp [running])
  exact startUp_frame_run h run (by simp [postRows_llc]) (by simp [postRows_llc]) (by simp [running])

theorem startUp_due {s : State} (h : s.StartUp) (r : Fin 8) : (s.rowBecomesDue r).StartUp := by
  unfold rowBecomesDue
  split
  · next a run _ => exact startUp_frame_run h run (by simp) (by simp) (by simp)
  · exact h

theorem startUp_reInit {s : State} (h : s.StartUp) : s.reInitExpiry.StartUp := by
  unfold reInitExpiry
  split
  · exact h
  · next n running =>
    have run : s.llc.state = .run := h.reInitTimer.mp (by simp [running])
    exact startUp_frame_run h run (by simp) (by simp [running]) (by simp)

/-! ### Load shed and part states -/

theorem clampFades_none {s : State} (p : Fin 8 → Bool) {c : Fin 256} (h : s.fdu.levels.get c = none) :
    (s.clampFades p).fdu.levels.get c = none := by simp [h]

theorem startUp_clampFades {s : State} (h : s.StartUp) (p : Fin 8 → Bool) : (s.clampFades p).StartUp :=
  startUp_frame h (fades := fun _ _ => clampFades_none p)

theorem startUp_raiseShed {s : State} (h : s.StartUp) : s.raiseShed.StartUp :=
  startUp_prompt (s := s.setLlc { s.llc with pendingShed := true }) (startUp_frame h (flight := fun _ => rfl))

theorem startUp_cutFrame {s : State} (h : s.StartUp) : s.cutFrame.StartUp := by
  rw [cutFrame_eq]
  exact startUp_frame h (flight := fun early => shape_eq (by simp [early]))

/-- A change of the FSC that leaves its phase. -/
theorem startUp_setFsc {s : State} (h : s.StartUp) {f : Floor} (part : f.part = s.fsc.part)
    (held : f.resetHeld = s.fsc.resetHeld) : (s.setFsc f).StartUp :=
  startUp_frame h (starting := by simp [part]) (held := by simp [held]) (polling := by simp [part])
    (bus := fun sound => ⟨sound.receiving, sound.holding, by simpa [held] using sound.stretch, by simpa [part] using sound.deaf,
      by simpa [part] using sound.noPending⟩)

theorem startUp_setLatch {s : State} (h : s.StartUp) : s.setLatch.StartUp := by
  cases latch : s.fsc.latch with
  | true => rwa [setLatch_of_set latch]
  | false =>
    rw [setLatch_of_clear latch]
    exact startUp_raiseShed (startUp_cutFrame (startUp_clampFades (startUp_setFsc (f := { s.fsc with latch := true }) h rfl rfl) _))

theorem startUp_lineLow {s : State} (h : s.StartUp) : s.lineLow.StartUp := by
  have observed : (s.observe false).StartUp := startUp_setFsc h rfl rfl
  unfold lineLow
  split
  · exact observed
  · exact startUp_setLatch observed

theorem startUp_level {s : State} (h : s.StartUp) (high : Bool) : (s.shednLevel high).StartUp := by
  unfold shednLevel
  split
  · exact h
  · exact startUp_setFsc h rfl rfl

/-- Between RUN and STANDBY polling follows the part. -/
theorem startUp_phase {s t : State} (h : s.StartUp) (part : s.fsc.part ≠ .starting) (part' : t.fsc.part ≠ .starting)
    (polling : t.slu.polling = true ↔ t.fsc.part ≠ .standby) (held : t.fsc.resetHeld = s.fsc.resetHeld)
    (timer : t.dle.timer = s.dle.timer) (sst : t.sst = s.sst := by simp) (llc : t.llc = s.llc := by simp) (fdu : t.fdu = s.fdu := by simp)
    (rlu : t.rlu = s.rlu := by simp) (lau : t.lau = s.lau := by simp) (zbi : t.zbi = s.zbi := by simp) : t.StartUp := by
  have run : s.llc.state = .run := by
    by_contra early
    exact part (h.starting.mpr early)
  have sound := busSound h
  exact startUp_frame h (starting := by simp [part, part']) held (by simp [sst]) (by simp [llc]) (by simp [llc]) (by simp [llc])
    (by simp [fdu]) (by simp [rlu]) (by simp [timer]) (fun _ => by simp [run, polling])
    (fun _ => ⟨by rw [zbi]; exact sound.receiving, by rw [zbi]; exact sound.holding, by rw [zbi, held]; exact sound.stretch,
      fun first => absurd first part', fun first => absurd first part'⟩)
    (by simp [rlu]) (by simp [llc]) (by simp [fdu]) (by simp [llc]) (by simp [lau])

theorem startUp_enterStandby {s : State} (h : s.StartUp) : s.enterStandby.StartUp := by
  unfold enterStandby
  split
  · next run => exact startUp_phase h (by simp [run]) nofun ⟨nofun, fun h => absurd rfl h⟩ rfl rfl
  all_goals exact h

theorem startUp_leaveStandby {s : State} (h : s.StartUp) : s.leaveStandby.StartUp := by
  unfold leaveStandby
  split
  · next standby => exact startUp_phase h (by simp [standby]) nofun ⟨fun _ => nofun, fun _ => rfl⟩ rfl rfl
  all_goals exact h

/-! ### Calibration and settings -/

theorem startUp_freezeRow {s : State} (h : s.StartUp) (r : Fin 8) : (s.freezeRow r).StartUp := startUp_frame h

theorem unstage_shape (gone : Fin 256 → Bool) (f : Flight) :
    (unstage gone f).cut = f.cut ∧ (unstage gone f).ends = f.ends ∧ (f.frame = .initGroup → unstage gone f = f) := by
  unfold unstage
  split
  · next frame => exact ⟨rfl, rfl, fun init => absurd (frame.symm.trans init) nofun⟩
  all_goals exact ⟨rfl, rfl, fun _ => rfl⟩

theorem shape_unstage {l : LuminaireLink} (gone : Fin 256 → Bool)
    (early : l.flight = none ∨ shape l = some (.initGroup, Timing.frame .initGroup, false)) :
    shape { l with flight := l.flight.map (unstage gone) } = shape l := by
  rcases early with silent | init
  · simp [shape, silent]
  · obtain ⟨f, flight, group⟩ : ∃ f, l.flight = some f ∧ (f.frame, f.ends, f.cut) = (.initGroup, Timing.frame .initGroup, false) := by
      simpa [shape] using init
    have frame : f.frame = .initGroup := congrArg Prod.fst group
    simp [shape, flight, (unstage_shape gone f).2.2 frame]

theorem flight_early {s : State} (h : s.StartUp) (early : s.llc.state ≠ .run) :
    s.llc.flight = none ∨ shape s.llc = some (.initGroup, Timing.frame .initGroup, false) := by
  cases state : s.llc.state with
  | off => exact .inl (h.silent state)
  | init => exact .inr (h.initGroup state)
  | run => exact absurd state early

theorem startUp_presenceEffects {s : State} (h : s.StartUp) (before : CellTable) : (s.presenceEffects before).StartUp := by
  have kept (early : s.llc.state ≠ .run) : shape (s.presenceEffects before).llc = shape s.llc :=
    shape_unstage (l := s.llc) _ (flight_early h early)
  refine startUp_frame h (state := rfl) (reInit := rfl) (flight := kept) (fade := rfl)
    (rows := fun empty => ?_) (fades := fun _ c none => ?_) (taken := fun _ c none => ?_) (lau := fun _ c cleared => ?_) <;>
    simp only [presenceEffects, setLlc_llc, setLlc_fdu, setLlc_lau, setFdu_llc, setFdu_fdu, setFdu_lau, setLau_llc, setLau_fdu,
      setLau_lau, setCt_llc, setCt_fdu, setCt_lau]
  · rw [empty]; rfl
  all_goals rw [Table.get_ofFn _ _ rfl]; split <;> first | rfl | assumption

theorem startUp_cells {s : State} (h : s.StartUp) (w : CellWrite) : (w.apply s).StartUp := by
  have written : ((s.freezeRow w.row).setCt (w.onto (s.freezeRow w.row).ct)).StartUp :=
    startUp_frame (startUp_freezeRow h w.row)
  have present := startUp_presenceEffects written s.ct
  unfold CellWrite.apply
  dsimp only
  split
  · exact startUp_frame present (state := rfl) (reInit := rfl) (fade := rfl) (flight := fun _ => rfl) (entries := fun _ empty => by rw [regrid_list, empty]; rfl)
  · exact present

theorem startUp_row {s : State} (h : s.StartUp) (r : Fin 8) (factor shed : Nat) : (s.writeRow r factor shed).StartUp := by
  unfold writeRow
  dsimp only
  split
  · refine startUp_raiseShed (startUp_clampFades ?_ _)
    exact startUp_frame (startUp_freezeRow h r)
  · exact startUp_frame (startUp_freezeRow h r)

theorem startUp_setMode {s : State} (h : s.StartUp) (m : QuantMode) : (s.setMode m).StartUp := by
  unfold setMode
  split
  · exact h
  · refine startUp_frame h (lau := fun _ c cleared => ?_)
    simp only [setLau_lau, Table.get_map, cleared]
    rfl

theorem startUp_setInterval {s : State} (h : s.StartUp) (v : Nat) : (s.setInterval v).StartUp := by
  unfold setInterval
  split
  · exact startUp_frame h (flight := fun _ => rfl)
  · exact startUp_prompt (s := s.setLlc { s.llc with pendingInterval := some v }) (startUp_frame h (flight := fun _ => rfl))

/-! ### Effects and ticks -/

theorem startUp_effect (s t : State) (e : Effect s t) (h : s.StartUp) : t.StartUp := by
  cases e with
  | bus change => exact startUp_frame h (bus := change.sound)
  | fullReset => exact startUp_fullReset s
  | holdReset => exact startUp_holdReset s
  | load free loading => exact startUp_finishLoad h free loading
  | level high => exact startUp_level h high
  | lineLow => exact startUp_lineLow h
  | lineHigh => exact startUp_setFsc h rfl rfl
  | store loading => exact startUp_frame h (loading := by simp [loading])
  | links change => exact startUp_frame h (polling := by simp [change.polling])
  | judged => exact startUp_frame h (sections := rfl) (polling := fun h => h)
  | sensor i present =>
    refine startUp_frame h (sections := rfl) (polling := fun h => ?_)
    have : (s.changeSensor i present).slu.polling = s.slu.polling := by
      simp only [changeSensor, handOff_slu, setSlu_slu]
      split_ifs <;> (try split) <;> (try split_ifs) <;> rfl
    rw [this]; exact h
  | daylight change => exact startUp_frame h (sections := by simp [change.timer])
  | rluSecond =>
    unfold rluSecond
    split
    · exact h
    · next running =>
      exact startUp_frame h (list := by simp [running, countEntries]) (entries := fun _ empty => by simp [countEntries, empty])
  | thaw p => exact startUp_frame h
  | fade => exact startUp_fade h
  | complete => exact startUp_complete h
  | due r => exact startUp_due h r
  | reInit => exact startUp_reInit h
  | entry placed =>
    exact startUp_frame h (entries := fun starting => absurd starting
      ((busSound h).part_of_transfer (by simp [placed.executing]) (by simp [placed.executing])))
  | remove p => exact startUp_frame h (list := rfl) (entries := fun _ empty => by simp [removeEntries, empty])
  | shortfall mode cells =>
    refine startUp_frame h (lau := fun _ c cleared => ?_)
    rcases cells c with same | cut
    · exact same.trans cleared
    · rw [cleared] at cut; exact cut
  | cells w => exact startUp_cells h w
  | row r => exact startUp_row h r _ _
  | slot admitted =>
    exact startUp_frame h (list := rfl) (bus := fun sound => ⟨sound.receiving, sound.holding, sound.stretch, sound.deaf, sound.noPending⟩)
      (entries := fun _ empty => by simp [writeSlot, removeEntries, empty])
  | profile => exact startUp_frame h
  | own executing =>
    have running := (busSound h).part_of_transfer (by simp [executing]) (by simp [executing])
    unfold setOwn
    split
    · exact h
    · exact startUp_frame h (bus := fun sound => ⟨sound.receiving, sound.holding, sound.stretch, sound.deaf, fun first => absurd first running⟩)
  | mode m => exact startUp_setMode h m
  | interval v => exact startUp_setInterval h _
  | restart => exact startUp_setFsc h rfl rfl
  | night => exact startUp_enterStandby h
  | day => exact startUp_leaveStandby h
  | latch => exact startUp_setLatch h
  | unlatch => exact startUp_setFsc h rfl rfl

theorem startUp_advance (s : State) (h : s.StartUp) : s.advance.StartUp := by
  refine startUp_frame h (t := s.advance) Iff.rfl rfl (by simp [advance]) rfl (by simp [advance]) (fun _ => ?_) (by simp [advance])
    (by simp [advance]) (by simp [advance]) id (fun sound => ?_) (fun _ => id) id (fun _ _ => id) (fun _ _ => id) (fun _ _ => id)
  · simp [shape, advance]; rfl
  · exact ⟨sound.receiving, by simpa [advance, BusLines.tick] using sound.holding,
      by simpa [advance, BusLines.tick, Floor.tick] using sound.stretch, sound.deaf, sound.noPending⟩

/-- Settles O6. -/
theorem stepKeepsStartUp : Obligations.StepKeepsStartUp := fun _ _ h step =>
  step_keeps (P := StartUp) (fun _ _ h => startUp_frame h) startUp_effect (fun s _ => startUp_advance s) step h

/-- What every effect of a state in the order of start-up keeps, every step keeps. -/
theorem step_keeps_started {P : State → Prop} (queue : ∀ s l, P s → P (s.setPending l))
    (effect : ∀ s t, Effect s t → s.StartUp → P s → P t) (advance : ∀ s, s.StartUp → P s → P s.advance) {s t : State} (start : s.StartUp)
    (h : P s) (step : Machine.step s = .next t) : P t :=
  (step_keeps (P := fun s => s.StartUp ∧ P s) (fun s l h => ⟨startUp_frame h.1, queue s l h.2⟩)
    (fun s t e h => ⟨startUp_effect s t e h.1, effect s t e h.1 h.2⟩)
    (fun s _ h => ⟨startUp_advance s h.1, advance s h.1 h.2⟩) step ⟨start, h⟩).2

end Sys2Proof.Proofs.StartUp
end

section
/-! PROOF. A table as the list of its records. -/

namespace Sys2Proof.Table

variable {α : Type} {d n : Nat}

/-- One record of a table that is given by a function. -/
theorem get_ofFn_eq [NeZero n] {t : Table α d} {f : Fin n → α} (h : t = .ofFn f) (hn : n = 2 ^ d) (i : Fin n) : t.get i = f i := by
  rw [h, get_ofFn f i hn]

theorem getElem?_toList (t : Table α d) {i : Nat} (h : i < 2 ^ d) : t.toList[i]? = some (t.getNat i) := by
  induction t generalizing i with
  | leaf a =>
    obtain rfl : i = 0 := by simpa using h
    rfl
  | @node d lo hi ihl ihr =>
    simp only [toList, getNat]
    by_cases low : i < 2 ^ d
    · rw [List.getElem?_append_left (by simpa using low), ihl low, blt_of_lt low, cond_true]
    · have le := not_lt.mp low
      rw [List.getElem?_append_right (by simpa using le), length_toList, ihr (by rw [pow_succ] at h; omega), blt_of_ge le, cond_false]

/-- The records in order, by their numbers. -/
theorem toList_eq (hn : n = 2 ^ d) (t : Table α d) : t.toList = (List.finRange n).map t.get := by
  refine List.ext_getElem? fun i => ?_
  by_cases h : i < n
  · rw [getElem?_toList t (hn ▸ h)]
    simp [h, get]
  · rw [List.getElem?_eq_none (by simp; omega), List.getElem?_eq_none (by simp; omega)]

theorem mem_toList (hn : n = 2 ^ d) {t : Table α d} {a : α} : a ∈ t.toList ↔ ∃ i : Fin n, t.get i = a := by
  simp [toList_eq hn]

end Sys2Proof.Table
end

section
/-! PROOF. Every effect keeps the master table sound (O7). -/

namespace Sys2Proof.Proofs.Masters

open Sys2Proof.Machine Sys2Proof.Machine.State Sys2Proof.Proofs.Effects Sys2Proof.Proofs.StartUp

/-! ### Which effects touch the ZBI -/

/-- Every effect but those of the bus, of a reset, of the load and of the requests on slots and own address leaves the ZBI. -/
theorem zbi_of_effect {s t : State} (e : Effect s t) :
    t.zbi = s.zbi ∨ (∃ z, BusChange s z ∧ t.zbi = z) ∨ t.zbi.slots = Live.factory.slots ∧ t.zbi.own = 0x40 ∧ t.zbi.pendingOwn = none ∨
      (s.fsc.resetHeld = false ∧ s.sst.loading.isSome = true ∧ t = s.finishLoad) ∨ (∃ n m, SlotAdmitted s n m ∧ t = s.writeSlot n m) ∨
      (∃ a, addressOk a = true ∧ (∀ n : Fin 8, (s.zbi.slots.get n).role ≠ .empty → (s.zbi.slots.get n).address ≠ a) ∧ t = s.setOwn a) := by
  cases e with
  | bus change => exact .inr (.inl ⟨_, change, rfl⟩)
  | fullReset | holdReset => exact .inr (.inr (.inl ⟨rfl, rfl, rfl⟩))
  | load free loading => exact .inr (.inr (.inr (.inl ⟨free, loading, rfl⟩)))
  | slot admitted => exact .inr (.inr (.inr (.inr (.inl ⟨_, _, admitted, rfl⟩))))
  | own _ range free => exact .inr (.inr (.inr (.inr (.inr ⟨_, range, free, rfl⟩))))
  | cells w => exact .inl (CellWrite.apply_zbi w s)
  | _ => exact .inl (by simp)

/-! ### Soundness of the table -/

/-- The master table is sound wherever slots and addresses are those of a state where it is. -/
theorem masters_congr {s t : State} (h : s.Masters) (slots : t.zbi.slots = s.zbi.slots) (own : t.zbi.own = s.zbi.own)
    (pendingOwn : t.zbi.pendingOwn = s.zbi.pendingOwn) : t.Masters :=
  { commissioning := slots ▸ h.commissioning
    distinct := slots ▸ h.distinct
    vacant := slots ▸ h.vacant
    own := own ▸ h.own
    pendingOwn := pendingOwn ▸ h.pendingOwn
    ownFree := own ▸ slots ▸ h.ownFree
    pendingFree := pendingOwn ▸ slots ▸ h.pendingFree }

/-- A sound table and a sound own address, nothing pending. -/
theorem masters_of_table {t : State} (commissioning : ∃ n : Fin 8, (t.zbi.slots.get n).role = .commissioning)
    (distinct : ∀ m n : Fin 8, m ≠ n → (t.zbi.slots.get m).role ≠ .empty → (t.zbi.slots.get n).role ≠ .empty →
      (t.zbi.slots.get m).address ≠ (t.zbi.slots.get n).address)
    (vacant : ∀ n : Fin 8, (t.zbi.slots.get n).role = .empty → t.zbi.slots.get n = .vacant)
    (own : addressOk t.zbi.own = true)
    (ownFree : ∀ n : Fin 8, (t.zbi.slots.get n).role ≠ .empty → (t.zbi.slots.get n).address ≠ t.zbi.own)
    (pendingOwn : t.zbi.pendingOwn = none) : t.Masters :=
  { commissioning, distinct, vacant, own, ownFree
    pendingOwn := by simp [pendingOwn]
    pendingFree := by simp [pendingOwn] }

/-- The factory table (R146). -/
theorem masters_of_factory {t : State} (slots : t.zbi.slots = Live.factory.slots) (own : t.zbi.own = 0x40)
    (pendingOwn : t.zbi.pendingOwn = none) : t.Masters := by
  have slot (n : Fin 8) : t.zbi.slots.get n = factorySlot n := by rw [slots]; exact Table.get_ofFn _ _ rfl
  refine masters_of_table ⟨0, by rw [slot]; rfl⟩ (fun m n apart => ?_) (fun n => ?_) (by rw [own]; decide) (fun n => ?_) pendingOwn
  · rw [slot, slot]; revert m n; decide
  · rw [slot]; revert n; decide
  · rw [slot, own]; revert n; decide

/-! ### The load -/

theorem StoredSlot.live_of_role {m : StoredSlot} {role : Role} (code : Role.ofCode m.role.toNat = some role) (used : role ≠ .empty) :
    m.live = { role, address := m.address, priority := clampPriority m.priority.toNat } := by
  unfold StoredSlot.live
  rw [code]
  cases role <;> first | rfl | exact absurd rfl used

theorem StoredSlot.live_used {m : StoredSlot} (h : m.live.role ≠ .empty) : m.role ≠ 0 ∧ m.live.address = m.address := by
  unfold StoredSlot.live at h ⊢
  split
  · next code => rw [code] at h; exact absurd rfl h
  · next code => rw [code] at h; exact absurd rfl h
  · next role used code =>
    refine ⟨fun zero => ?_, rfl⟩
    rw [zero] at code
    exact used (by simpa [Role.ofCode] using code.symm)

theorem StoredSlot.live_vacant {m : StoredSlot} (h : m.live.role = .empty) : m.live = .vacant := by
  unfold StoredSlot.live at h ⊢
  split
  · rfl
  · rfl
  · next role used code => rw [code] at h; simp only at h; exact absurd h used

theorem masters_of_good {t : State} {x : Settings} (table : x.tableGood = true) (owned : x.ownGood = true)
    (slots : t.zbi.slots = x.live.slots) (own : t.zbi.own = x.own) (pendingOwn : t.zbi.pendingOwn = none) : t.Masters := by
  have slot (n : Fin 8) : t.zbi.slots.get n = (x.slots.get n).live := by rw [slots]; exact Table.get_map _ _ _
  have list : x.slots.toList = (List.finRange 8).map x.slots.get := Table.toList_eq rfl _
  simp only [Settings.tableGood, Settings.ownGood, Bool.and_eq_true, decide_eq_true_eq] at table owned
  obtain ⟨⟨⟨-, some⟩, -⟩, apart⟩ := table
  obtain ⟨ok, free⟩ := owned
  have used (n : Fin 8) (live : (t.zbi.slots.get n).role ≠ .empty) :
      x.slots.get n ∈ x.usedSlots ∧ (t.zbi.slots.get n).address = (x.slots.get n).address := by
    obtain ⟨role, address⟩ := StoredSlot.live_used (slot n ▸ live)
    exact ⟨List.mem_filter.mpr ⟨(Table.mem_toList (n := 8) rfl).mpr ⟨n, rfl⟩, by simpa using role⟩, by rw [slot]; exact address⟩
  refine masters_of_table ?_ (fun m n ne liveM liveN same => ?_) (fun n empty => ?_) (by rw [own]; exact ok) (fun n live same => ?_) pendingOwn
  · obtain ⟨m, mem, role⟩ := List.any_eq_true.mp some
    obtain ⟨n, rfl⟩ := (Table.mem_toList (n := 8) rfl).mp mem
    exact ⟨n, by rw [slot, StoredSlot.live_of_role (by simpa using role) (by decide)]⟩
  · obtain ⟨memM, addressM⟩ := used m liveM
    obtain ⟨memN, addressN⟩ := used n liveN
    rw [Settings.usedSlots, list, List.filter_map, List.map_map] at apart
    have finer := List.inj_on_of_nodup_map apart (x := m) (by simpa [Settings.usedSlots, list] using (List.mem_filter.mp memM).2)
      (y := n) (by simpa [Settings.usedSlots, list] using (List.mem_filter.mp memN).2)
    exact ne (finer (by simpa [addressM, addressN] using same))
  · rw [slot] at empty ⊢
    exact StoredSlot.live_vacant empty
  · obtain ⟨mem, address⟩ := used n live
    have : x.own ∈ x.usedSlots.map StoredSlot.address := List.mem_map.mpr ⟨_, mem, by rw [← address, same, own]⟩
    simp only [Bool.not_eq_true', List.contains_eq_mem, decide_eq_false_iff_not] at free
    exact free this

theorem masters_finishLoad {s : State} (pending : s.zbi.pendingOwn = none) : s.finishLoad.Masters := by
  have slots : s.finishLoad.zbi.slots = s.loaded.slots := rfl
  have own : s.finishLoad.zbi.own = s.loaded.own := rfl
  rw [loaded] at slots own
  split at slots
  · next good =>
    rw [if_pos good] at own
    simp only [Store.good, Bool.and_eq_true] at good
    obtain ⟨⟨⟨table, owned⟩, -⟩, -⟩ := good
    exact masters_of_good table owned slots own pending
  · next bad =>
    rw [if_neg bad] at own
    exact masters_of_factory slots own pending

/-! ### Requests -/

theorem addressTaken_eq_false {s : State} {n : Fin 8} {a : Byte} (h : s.addressTaken n a = false) {m : Fin 8} (ne : m ≠ n)
    (live : (s.zbi.slots.get m).role ≠ .empty) : (s.zbi.slots.get m).address ≠ a := by
  intro same
  have : s.addressTaken n a = true := List.any_eq_true.mpr ⟨m, List.mem_finRange _, by simp [ne, live, same]⟩
  rw [h] at this
  cases this

theorem masters_writeSlot {s : State} {n : Fin 8} {m : MasterSlot} (h : s.Masters) (admitted : SlotAdmitted s n m) :
    (s.writeSlot n m).Masters := by
  have slot (k : Fin 8) : (s.writeSlot n m).zbi.slots.get k = if n = k then m else s.zbi.slots.get k := Table.get_set _ _ _ _ rfl
  have own : (s.writeSlot n m).zbi.own = s.zbi.own := rfl
  have pendingOwn : (s.writeSlot n m).zbi.pendingOwn = s.zbi.pendingOwn := rfl
  have apart {k : Fin 8} (used : m.role ≠ .empty) (ne : n ≠ k) (live : (s.zbi.slots.get k).role ≠ .empty) :
      (s.zbi.slots.get k).address ≠ m.address :=
    addressTaken_eq_false (admitted.free used).1 ne.symm live
  refine { commissioning := ?_, distinct := fun j k ne => ?_, vacant := fun k => ?_, own := own ▸ h.own,
           pendingOwn := pendingOwn ▸ h.pendingOwn, ownFree := fun k => ?_, pendingFree := fun k => ?_ }
  · rcases admitted.commissioning with role | other
    · exact ⟨n, by rw [slot, if_pos rfl]; exact role⟩
    · obtain ⟨k, -, other⟩ := List.any_eq_true.mp other
      simp only [Bool.and_eq_true, decide_eq_true_eq] at other
      exact ⟨k, by rw [slot, if_neg other.1.symm]; exact other.2⟩
  · rw [slot, slot]
    split
    · next same =>
      subst same
      rw [if_neg ne]
      exact fun used live => (apart used ne live).symm
    split
    · next other same =>
      subst same
      exact fun live used => apart used other live
    · exact h.distinct j k ne
  · rw [slot]
    split
    · exact admitted.vacant
    · exact h.vacant k
  · rw [slot, own]
    split
    · exact fun used => (admitted.free used).2.1
    · exact h.ownFree k
  · rw [slot, pendingOwn]
    split
    · exact fun used => (admitted.free used).2.2
    · exact h.pendingFree k

theorem masters_setOwn {s : State} {a : Byte} (h : s.Masters) (range : addressOk a = true)
    (free : ∀ n : Fin 8, (s.zbi.slots.get n).role ≠ .empty → (s.zbi.slots.get n).address ≠ a) : (s.setOwn a).Masters := by
  unfold setOwn
  split
  · exact h
  · exact { h with
      pendingOwn := by simpa using range
      pendingFree := fun n live => by simpa using free n live }

theorem masters_bus {s t : State} {z : ZoneBus} (h : s.Masters) (change : BusChange s z) (zbi : t.zbi = z) : t.Masters := by
  subst zbi
  rcases change.own with ⟨own, pendingOwn⟩ | ⟨own, pendingOwn⟩
  · exact masters_congr h change.slots own pendingOwn
  cases pending : s.zbi.pendingOwn with
  | none => exact masters_congr h change.slots (by simpa [pending] using own) (pendingOwn.trans pending.symm)
  | some a =>
    have own : t.zbi.own = a := by simpa [pending] using own
    exact
      { commissioning := change.slots ▸ h.commissioning
        distinct := change.slots ▸ h.distinct
        vacant := change.slots ▸ h.vacant
        own := by simpa [own, pending] using h.pendingOwn
        pendingOwn := by simp [pendingOwn]
        ownFree := fun n live => by simpa [own, pending, change.slots] using h.pendingFree n (change.slots ▸ live)
        pendingFree := by simp [pendingOwn] }

theorem masters_effect {s t : State} (e : Effect s t) (start : s.StartUp) (h : s.Masters) : t.Masters := by
  rcases zbi_of_effect e with same | ⟨z, change, zbi⟩ | ⟨slots, own, pendingOwn⟩ | ⟨-, loading, rfl⟩ | ⟨n, m, admitted, rfl⟩ |
    ⟨a, range, free, rfl⟩
  · exact masters_congr h (by rw [same]) (by rw [same]) (by rw [same])
  · exact masters_bus h change zbi
  · exact masters_of_factory slots own pendingOwn
  · exact masters_finishLoad (start.noPending (start.starting.mpr (by simp [start.off.mpr (.inl loading)]))).1
  · exact masters_writeSlot h admitted
  · exact masters_setOwn h range free

/-- Settles O7. -/
theorem stepKeepsMasters : Obligations.StepKeepsMasters := fun _ _ start h step =>
  step_keeps_started (fun _ _ h => masters_congr h rfl rfl rfl) (fun _ _ => masters_effect) (fun _ _ h => masters_congr h rfl rfl rfl)
    start h step

end Sys2Proof.Proofs.Masters
end

section
/-! PROOF. What a computation of the LAU keeps (R94), and that every effect keeps residues in their range (O11). -/

namespace Sys2Proof.Proofs.Dithered

open Sys2Proof.Machine Sys2Proof.Machine.State Sys2Proof.Proofs.Effects Sys2Proof.Proofs.StartUp

/-- A residue as R94 has it in a quantiser mode. -/
abbrev ResidueOk (mode : QuantMode) (residue : Nat) : Prop := residue ≤ 15 ∧ (mode ≠ .dither → residue = 0)

theorem dithered_iff (s : State) : s.Dithered ↔ ∀ c : Fin 256, ResidueOk s.lau.mode (s.lau.cells.get c).residue := Iff.rfl

theorem residueOk_zero (mode : QuantMode) : ResidueOk mode 0 := ⟨Nat.zero_le _, fun _ => rfl⟩

/-! ### The computation -/

theorem quantise_residue {mode : QuantMode} {residue : Nat} (h : ResidueOk mode residue) (l16 : Nat) :
    ResidueOk mode (quantise mode residue l16).2 := by
  have fraction := Nat.mod_lt l16 (show 16 > 0 by decide)
  obtain ⟨small, zero⟩ := h
  cases mode with
  | chop | round => exact ⟨small, zero⟩
  | dither =>
    refine ⟨?_, fun other => absurd rfl other⟩
    simp only [quantise]
    split <;> dsimp only <;> omega

theorem levelOf_residue {mode : QuantMode} {residue : Nat} (h : ResidueOk mode residue) (demand : Int) (efficacy : Nat) :
    ResidueOk mode (levelOf mode residue demand efficacy).2.1 := by
  unfold levelOf
  split
  · exact residueOk_zero mode
  split
  · exact residueOk_zero mode
  · exact quantise_residue h _

theorem formBase_residue {i : LauInput} {old : LauCell} (h : ResidueOk i.mode old.residue) :
    ResidueOk i.mode (i.formBase old).residue := by
  unfold LauInput.formBase
  split
  · exact h
  dsimp only
  split
  · exact h
  all_goals exact levelOf_residue h _ _

theorem lauComputed_residue {s : State} (h : s.Dithered) (c : Fin 256) : ResidueOk s.lau.mode (s.lauComputed c).residue :=
  formBase_residue (i := s.lauInput c) (h c)

/-! ### Effects -/

theorem dithered_congr {s t : State} (h : s.Dithered) (lau : t.lau = s.lau) : t.Dithered := by
  rw [dithered_iff, lau]; exact h

theorem dithered_of_records {t : State} (h : ∀ c : Fin 256, ResidueOk t.lau.mode (t.lau.cells.get c).residue) : t.Dithered := h

theorem dithered_of_cleared {t : State} (h : ∀ c : Fin 256, t.lau.cells.get c = .cleared) : t.Dithered :=
  fun c => by rw [h c]; exact residueOk_zero _

theorem fade_lau (s : State) : s.fade.lau = if s.fdu.timer.isSome then s.fadeCells.lau else s.lau := by
  unfold fade
  split
  · next stopped => simp [stopped]
  · next running => simp [running]

theorem dithered_fade {s : State} (h : s.Dithered) : s.fade.Dithered := by
  refine dithered_of_records fun c => ?_
  rw [fade_lau]
  split
  · show ResidueOk s.lau.mode _
    rw [fadeCells, setFdu_lau, setLau_lau, Table.get_ofFn _ _ rfl]
    split
    · exact lauComputed_residue h c
    · exact h c
  · exact h c

theorem presenceEffects_lau (s : State) (before : CellTable) :
    (s.presenceEffects before).lau = { s.lau with
      cells := .ofFn fun c : Fin 256 => if before.present c = s.ct.present c then s.lau.cells.get c else .cleared } := by
  simp only [presenceEffects, setLlc_lau, setFdu_lau, setLau_lau, setCt_lau]
  congr
  funext c
  cases before.present c <;> cases s.ct.present c <;> rfl

theorem dithered_presenceEffects {s : State} (h : s.Dithered) (before : CellTable) : (s.presenceEffects before).Dithered := by
  refine dithered_of_records fun c => ?_
  rw [presenceEffects_lau, Table.get_ofFn _ _ rfl]
  split
  · exact h c
  · exact residueOk_zero _

theorem dithered_cells {s : State} (h : s.Dithered) (w : CellWrite) : (w.apply s).Dithered := by
  have present := dithered_presenceEffects
    (dithered_congr (t := (s.freezeRow w.row).setCt (w.onto (s.freezeRow w.row).ct)) h (by simp)) s.ct
  unfold CellWrite.apply
  dsimp only
  split
  · exact dithered_congr present rfl
  · exact present

theorem dithered_setMode {s : State} (h : s.Dithered) (m : QuantMode) : (s.setMode m).Dithered := by
  unfold setMode
  split
  · exact h
  · exact dithered_of_records fun c => by
      rw [setLau_lau, Table.get_map]
      exact residueOk_zero m

theorem dithered_effect {s t : State} (e : Effect s t) (start : s.StartUp) (h : s.Dithered) : t.Dithered := by
  cases e with
  | fullReset | holdReset => exact dithered_of_cleared fun c => Table.get_const _ _
  | load free loading =>
    have starting : s.fsc.part = .starting := start.starting.mpr (by simp [start.off.mpr (.inl loading)])
    exact dithered_of_cleared fun c => (start.dark starting c).2.2
  | fade => exact dithered_fade h
  | shortfall mode cells =>
    refine dithered_of_records fun c => ?_
    rw [setLau_lau, mode]
    rcases cells c with same | same <;> rw [same] <;> exact h c
  | cells w => exact dithered_cells h w
  | mode m => exact dithered_setMode h m
  | _ => exact dithered_congr h (by simp)

/-- Settles O11. -/
theorem stepKeepsDithered : Obligations.StepKeepsDithered := fun _ _ start h step =>
  step_keeps_started (fun _ _ h => dithered_congr h rfl) (fun _ _ => dithered_effect) (fun _ _ h => dithered_congr h rfl) start h step

end Sys2Proof.Proofs.Dithered
end

section
/-! PROOF. What an effect can do to one sensor and its section, said once; the pairing of the two (O10) and their ranges (O15) are
facts about one record each. -/

namespace Sys2Proof.Proofs.Sensors

open Sys2Proof.Machine Sys2Proof.Machine.State Sys2Proof.Proofs.Effects Sys2Proof.Proofs.StartUp

/-! ### One sensor and its section -/

/-- What one effect or one tick does to a sensor and its section. -/
inductive RecordStep : Sensor → Section → Sensor → Section → Prop
  | same (r : Sensor) (c : Section) : RecordStep r c r c
  | judged {r : Sensor} (c : Section) {x : Sensor × HandOff} (outcome : Judged r x) : RecordStep r c x.1 (c.take x.2)
  | cleared (r : Sensor) (c : Section) (present : Bool) : RecordStep r c (.cleared present) (c.take .unseed)
  | standby {r : Sensor} (c : Section) (present : r.present = true) : RecordStep r c r.toStandby (c.take .unseed)
  | started (r : Sensor) (c : Section) (present : Bool) {shift : Nat} (range : shift ≤ 7) :
      RecordStep r c (.cleared present) (.unseeded shift)
  | kept (r : Sensor) {c d : Section} (filtered : d.filtered = c.filtered) (range : sectionOk c → sectionOk d) : RecordStep r c r d
  | tick (polling : Bool) (r : Sensor) (c : Section) : RecordStep r c (r.tick polling) c

/-- Every sensor and section moves by one step of its own. -/
def RecordsStep (s t : State) : Prop :=
  ∀ i : Fin 16, RecordStep (s.slu.sensors.get i) (s.dle.sections.get i) (t.slu.sensors.get i) (t.dle.sections.get i)

theorem recordsStep_same {s t : State} (slu : t.slu.sensors = s.slu.sensors) (dle : t.dle.sections = s.dle.sections) : RecordsStep s t :=
  fun i => by rw [slu, dle]; exact .same _ _

/-! ### Effects and ticks -/

@[simp] theorem handOff_section (s : State) (i j : Fin 16) (h : HandOff) :
    (s.handOff i h).dle.sections.get j = if i = j then (s.dle.sections.get i).take h else s.dle.sections.get j := by
  simp [handOff]

@[simp] theorem changeSensor_sensors (s : State) (i : Fin 16) (present : Bool) :
    (s.changeSensor i present).slu.sensors = s.slu.sensors.set i (.cleared present) := by
  simp only [changeSensor, handOff_slu, setSlu_slu]
  split_ifs <;> (try split) <;> (try split_ifs) <;> rfl

theorem recordsStep_judged {s : State} {i : Fin 16} {x : Sensor × HandOff} (outcome : Judged (s.slu.sensors.get i) x) :
    RecordsStep s (s.putSensor i x) := by
  intro j
  simp only [putSensor, handOff_slu, setSlu_slu, handOff_section, setSlu_dle, Table.get_set, Nat.reducePow]
  split
  · next same => exact same ▸ .judged _ outcome
  · exact .same _ _

theorem recordsStep_sensor (s : State) (i : Fin 16) (present : Bool) : RecordsStep s (s.changeSensor i present) := by
  intro j
  rw [changeSensor_sensors, changeSensor, handOff_section, setSlu_dle, Table.get_set _ _ _ _ rfl]
  split
  · next same => exact same ▸ .cleared _ _ _
  · exact .same _ _

theorem recordsStep_daylight {s : State} {x : Daylight} (change : DaylightChange s.dle x) : RecordsStep s (s.setDle x) :=
  fun i => .kept _ (change.filtered i) (change.sections i)

theorem recordsStep_reset {s t : State} (slu : t.slu.sensors = State.reset.slu.sensors) (dle : t.dle = State.reset.dle) :
    RecordsStep s t := by
  intro i
  have sensor : t.slu.sensors.get i = .cleared true := by rw [slu]; exact Table.get_const _ _
  have sec : t.dle.sections.get i = .unseeded 3 := by rw [dle]; exact Table.get_const _ _
  rw [sensor, sec]
  exact .started _ _ _ (by decide)

theorem loaded_shift (s : State) (i : Fin 16) : (s.loaded.sensors.get i).2 ≤ 7 := by
  unfold loaded
  split
  · rw [Settings.live, Table.get_map]
    exact min_le_right _ _
  · rw [Live.factory, Table.get_const]
    decide

theorem recordsStep_load (s : State) : RecordsStep s s.finishLoad := by
  intro i
  have sensor : s.finishLoad.slu.sensors.get i = .cleared (s.loaded.sensors.get i).1 := Table.get_map _ _ _
  have sec : s.finishLoad.dle.sections.get i = .unseeded (s.loaded.sensors.get i).2 := Table.get_map _ _ _
  rw [sensor, sec]
  exact .started _ _ _ (loaded_shift s i)

theorem toStandby_of_absent {r : Sensor} (h : r.present = false) : r.toStandby = r := by simp [Sensor.toStandby, h]

theorem enterStandby_of_run {s : State} (run : s.fsc.part = .run) :
    s.enterStandby = (s.setFsc { s.fsc with part := .standby }).sensorsToStandby := by simp [enterStandby, run]

theorem enterStandby_of_ne {s : State} (ne : s.fsc.part ≠ .run) : s.enterStandby = s := by
  unfold enterStandby
  split
  · next run => exact absurd run ne
  all_goals rfl

theorem enterStandby_sensor {s : State} (run : s.fsc.part = .run) (i : Fin 16) :
    s.enterStandby.slu.sensors.get i = (s.slu.sensors.get i).toStandby := by
  rw [enterStandby_of_run run]
  exact Table.get_map _ _ _

theorem enterStandby_section {s : State} (run : s.fsc.part = .run) (i : Fin 16) :
    s.enterStandby.dle.sections.get i =
      if (s.slu.sensors.get i).present = true then (s.dle.sections.get i).take .unseed else s.dle.sections.get i := by
  rw [enterStandby_of_run run]
  exact Table.get_ofFn (d := 4) (fun i : Fin 16 =>
    if (s.slu.sensors.get i).present = true then (s.dle.sections.get i).take .unseed else s.dle.sections.get i) i rfl

theorem recordsStep_night (s : State) : RecordsStep s s.enterStandby := by
  by_cases run : s.fsc.part = .run
  · intro i
    rw [enterStandby_sensor run, enterStandby_section run]
    split
    · next present => exact .standby _ present
    · next absent => rw [toStandby_of_absent (by simpa using absent)]; exact .same _ _
  · rw [enterStandby_of_ne run]
    exact recordsStep_same rfl rfl

theorem recordsStep_day (s : State) : RecordsStep s s.leaveStandby := by
  unfold leaveStandby
  split <;> exact recordsStep_same rfl rfl

theorem recordsStep_effect {s t : State} (e : Effect s t) : RecordsStep s t := by
  cases e with
  | fullReset | holdReset => exact recordsStep_reset rfl rfl
  | load => exact recordsStep_load s
  | links change => exact recordsStep_same change.sensors rfl
  | judged outcome => exact recordsStep_judged outcome
  | sensor i present => exact recordsStep_sensor s i present
  | daylight change => exact recordsStep_daylight change
  | night => exact recordsStep_night s
  | day => exact recordsStep_day s
  | cells w => exact recordsStep_same (by unfold CellWrite.apply; dsimp only; split <;> simp) (by unfold CellWrite.apply; dsimp only; split <;> simp)
  | _ => exact recordsStep_same (by simp) (by simp)

theorem recordsStep_advance (s : State) : RecordsStep s s.advance := fun i => by
  have sensor : s.advance.slu.sensors.get i = (s.slu.sensors.get i).tick s.slu.polling := Table.get_map _ _ _
  rw [sensor]
  exact .tick _ _ _

/-- What every step of a record keeps, every step of the part keeps for every record. -/
theorem records_keep {P : Sensor → Section → Prop} (kept : ∀ {r r' c c'}, RecordStep r c r' c' → P r c → P r' c') {s t : State}
    (step : Machine.step s = .next t) (h : ∀ i : Fin 16, P (s.slu.sensors.get i) (s.dle.sections.get i)) (i : Fin 16) :
    P (t.slu.sensors.get i) (t.dle.sections.get i) :=
  step_keeps (P := fun s => ∀ i : Fin 16, P (s.slu.sensors.get i) (s.dle.sections.get i)) (fun _ _ h => h)
    (fun _ _ e h i => kept (recordsStep_effect e i) (h i)) (fun s _ h i => kept (recordsStep_advance s i) (h i)) step h i

/-! ### The pairing -/

/-- A section is seeded exactly while its sensor is FRESH or STALE, and the sensor ABSENT exactly while it is not present. -/
structure Paired (r : Sensor) (c : Section) : Prop where
  seeded : c.filtered.isSome = true ↔ (r.health = .fresh ∨ r.health = .stale)
  sensed : r.health = .absent ↔ r.present = false

theorem paired_iff (s : State) : (s.Seeded ∧ s.Sensed) ↔ ∀ i : Fin 16, Paired (s.slu.sensors.get i) (s.dle.sections.get i) := by
  have seeded (i : Fin 16) : (s.dle.sections.get i).seeded = s.usable i ↔
      ((s.dle.sections.get i).filtered.isSome = true ↔
        ((s.slu.sensors.get i).health = .fresh ∨ (s.slu.sensors.get i).health = .stale)) := by
    rw [Bool.eq_iff_iff, Section.seeded, Substitution.usable_iff]
  exact ⟨fun h i => ⟨(seeded i).mp (h.1 i), h.2 i⟩, fun h => ⟨fun i => (seeded i).mpr (h i).seeded, fun i => (h i).sensed⟩⟩

theorem seeded_after_seed (c : Section) (lux : Nat) : (c.take (.seed lux)).filtered.isSome = true := rfl
theorem seeded_after_filterStep (c : Section) (lux : Nat) : (c.take (.filterStep lux)).filtered.isSome = true := by
  simp only [Section.take]; split <;> rfl

theorem paired_cleared (c : Section) (h : c.filtered = none) (present : Bool) : Paired (.cleared present) c := by
  cases present <;> exact ⟨by simp [h, Sensor.cleared], by simp [Sensor.cleared]⟩

theorem paired_onValid {r : Sensor} {c : Section} (h : Paired r c) (x : Sample) (saturated : Bool) :
    Paired (r.onValid x saturated).1 (c.take (r.onValid x saturated).2) := by
  obtain ⟨seeded, sensed⟩ := h
  unfold Sensor.onValid
  dsimp only
  cases health : r.health with
  | waiting => exact ⟨by simp [seeded_after_seed], by simpa [health] using sensed⟩
  | fresh | stale => exact ⟨by simp [seeded_after_filterStep], by simpa [health] using sensed⟩
  | failed => exact ⟨by simp [Section.take], by simpa [health] using sensed⟩
  | absent => exact ⟨by simpa [Section.take, health] using seeded, by simpa [health] using sensed⟩
  | recovering =>
    dsimp only
    split
    · exact ⟨by simp [seeded_after_seed], by simpa [health] using sensed⟩
    · exact ⟨by simpa [Section.take, health] using seeded, by simpa [health] using sensed⟩

theorem paired_onError {r : Sensor} {c : Section} (h : Paired r c) (e : SensorError) :
    Paired (r.onError e).1 (c.take (r.onError e).2) := by
  obtain ⟨seeded, sensed⟩ := h
  unfold Sensor.onError
  dsimp only
  cases health : r.health with
  | waiting | fresh | stale =>
    dsimp only
    split
    · exact ⟨by simp [Section.take], by simpa [health] using sensed⟩
    · exact ⟨by simpa [Section.take, health] using seeded, by simpa [health] using sensed⟩
  | recovering => exact ⟨by simp [Section.take], by simpa [health] using sensed⟩
  | failed | absent => exact ⟨by simpa [Section.take, health] using seeded, by simpa [health] using sensed⟩

theorem paired_onTimeout {r : Sensor} {c : Section} (h : Paired r c) : Paired r.onTimeout.1 (c.take r.onTimeout.2) := by
  obtain ⟨seeded, sensed⟩ := h
  unfold Sensor.onTimeout
  cases health : r.health with
  | fresh => exact ⟨by simpa [Section.take, health] using seeded, by simpa [health] using sensed⟩
  | waiting | stale => exact ⟨by simp [Section.take], by simpa [health] using sensed⟩
  | absent | failed | recovering => exact ⟨by simpa [Section.take, health] using seeded, by simpa [health] using sensed⟩

theorem paired_step {r r' : Sensor} {c c' : Section} (step : RecordStep r c r' c') (h : Paired r c) : Paired r' c' := by
  cases step with
  | same => exact h
  | judged _ outcome =>
    cases outcome with
    | valid x saturated => exact paired_onValid h x saturated
    | error e => exact paired_onError h e
    | timeout => exact paired_onTimeout h
  | cleared _ _ present => exact paired_cleared _ rfl present
  | standby _ present => exact ⟨by simp [Section.take, Sensor.toStandby, present], by simp [Sensor.toStandby, present]⟩
  | started _ _ present => exact paired_cleared _ rfl present
  | kept _ filtered => exact ⟨by rw [filtered]; exact h.seeded, h.sensed⟩
  | tick polling =>
    have ticked : (r.tick polling).health = r.health ∧ (r.tick polling).present = r.present := by
      unfold Sensor.tick; split <;> exact ⟨rfl, rfl⟩
    exact ⟨by rw [ticked.1]; exact h.seeded, by rw [ticked.1, ticked.2]; exact h.sensed⟩

/-- Settles O10. -/
theorem stepKeepsSeeded : Obligations.StepKeepsSeeded := fun s t seeded sensed step =>
  (paired_iff t).mpr (records_keep paired_step step ((paired_iff s).mp ⟨seeded, sensed⟩))

/-! ### Ranges of one sensor and its section -/

/-- A sensor record and a section record in their ranges. -/
def RecordsOk (r : Sensor) (c : Section) : Prop := sensorOk r ∧ sectionOk c

/-- The lux a hand-off carries, 0 where it carries none. -/
def handedOver : HandOff → Nat
  | .seed lux | .filterStep lux => lux
  | .unseed | .nothing => 0

theorem sectionOk_take {c : Section} (h : sectionOk c) {x : HandOff} (lux : handedOver x ≤ 262080) : sectionOk (c.take x) := by
  obtain ⟨filtered, shift, hold, unknown⟩ := h
  cases x with
  | seed v => exact ⟨lux, shift, hold, unknown⟩
  | unseed => exact ⟨Nat.zero_le _, shift, hold, unknown⟩
  | nothing => exact ⟨filtered, shift, hold, unknown⟩
  | filterStep v =>
    cases seeded : c.filtered with
    | none => rw [FilterStep.take_filterStep_of_unseeded seeded]; exact ⟨lux, shift, hold, unknown⟩
    | some f =>
      rw [FilterStep.take_filterStep_of_seeded seeded]
      have bound : f ≤ 262080 := by simpa [within, seeded] using filtered
      exact ⟨(FilterStep.moved_le_max c.shift f v).trans (max_le bound lux), shift, hold, unknown⟩

theorem sampleOk_lux {x : Sample} (h : sampleOk x) : x.lux ≤ 262080 := by
  obtain ⟨count, range, lux⟩ := h
  rw [lux]
  calc x.count * 4 ^ x.range ≤ 4095 * 4 ^ 3 := Nat.mul_le_mul count (Nat.pow_le_pow_right (by decide) range)
    _ = 262080 := by decide

theorem sensorOk_cleared (present : Bool) : sensorOk (.cleared present) := by
  cases present <;> simp [sensorOk, Sensor.cleared]

theorem ok_onValid {r : Sensor} {c : Section} (h : RecordsOk r c) {x : Sample} (range : sampleOk x) (saturated : Bool) :
    RecordsOk (r.onValid x saturated).1 (c.take (r.onValid x saturated).2) := by
  obtain ⟨⟨errors, since, run, idle, sample⟩, sec⟩ := h
  have lux := sampleOk_lux range
  have zero : (0 : Nat) ≤ Timing.sinceLimit := Nat.zero_le _
  unfold Sensor.onValid
  dsimp only
  cases health : r.health with
  | waiting | fresh | stale =>
    exact ⟨⟨by simp, zero, run, fun _ => idle (by simp [health]), by simpa using range⟩, sectionOk_take sec lux⟩
  | failed => exact ⟨⟨by simp, zero, by simp, by simp, by simpa using range⟩, sectionOk_take sec (Nat.zero_le _)⟩
  | absent => exact ⟨⟨by simp, zero, run, fun _ => idle (by simp [health]), by simpa using range⟩, sec⟩
  | recovering =>
    dsimp only
    split
    · exact ⟨⟨by simp, zero, by simp, by simp, by simpa using range⟩, sectionOk_take sec lux⟩
    · exact ⟨⟨by simp, zero, by simp only; omega, by simp, by simpa using range⟩, sec⟩

theorem ok_onError {r : Sensor} {c : Section} (h : RecordsOk r c) (e : SensorError) :
    RecordsOk (r.onError e).1 (c.take (r.onError e).2) := by
  obtain ⟨⟨errors, since, run, idle, sample⟩, sec⟩ := h
  have counted : min (r.errors + 1) 8 ≤ 8 := min_le_right _ _
  have failed : sectionOk (c.take .unseed) := sectionOk_take sec (Nat.zero_le _)
  unfold Sensor.onError
  dsimp only
  cases health : r.health with
  | waiting | fresh | stale =>
    dsimp only
    split
    · exact ⟨⟨counted, since, run, fun _ => idle (by simp [health]), sample⟩, failed⟩
    · exact ⟨⟨counted, since, run, fun _ => idle (by simp [health]), sample⟩, sec⟩
  | recovering => exact ⟨⟨counted, since, by simp, by simp, sample⟩, failed⟩
  | failed | absent => exact ⟨⟨counted, since, run, fun _ => idle (by simp [health]), sample⟩, sec⟩

theorem ok_onTimeout {r : Sensor} {c : Section} (h : RecordsOk r c) : RecordsOk r.onTimeout.1 (c.take r.onTimeout.2) := by
  obtain ⟨⟨errors, since, run, idle, sample⟩, sec⟩ := h
  have stale : max r.since Timing.stale ≤ Timing.sinceLimit := max_le since (by decide)
  have failed : max r.since Timing.failed ≤ Timing.sinceLimit := max_le since (by decide)
  unfold Sensor.onTimeout
  cases health : r.health with
  | fresh => exact ⟨⟨errors, stale, run, fun _ => idle (by simp [health]), sample⟩, sec⟩
  | waiting | stale =>
    exact ⟨⟨errors, failed, run, fun _ => idle (by simp [health]), sample⟩, sectionOk_take sec (Nat.zero_le _)⟩
  | absent | failed | recovering => exact ⟨⟨errors, since, run, idle, sample⟩, sec⟩

theorem ok_step {r r' : Sensor} {c c' : Section} (step : RecordStep r c r' c') (h : RecordsOk r c) : RecordsOk r' c' := by
  cases step with
  | same => exact h
  | judged _ outcome =>
    cases outcome with
    | valid x saturated range => exact ok_onValid h range saturated
    | error e => exact ok_onError h e
    | timeout => exact ok_onTimeout h
  | cleared _ _ present => exact ⟨sensorOk_cleared present, sectionOk_take h.2 (Nat.zero_le _)⟩
  | standby _ present =>
    obtain ⟨⟨-, -, -, -, sample⟩, sec⟩ := h
    rw [Sensor.toStandby, if_pos present]
    exact ⟨⟨by simp, Nat.zero_le _, by simp, by simp, sample⟩, sectionOk_take sec (Nat.zero_le _)⟩
  | started _ _ present range => exact ⟨sensorOk_cleared present, ⟨Nat.zero_le _, range, ⟨nofun, Nat.zero_le _⟩, fun _ => rfl⟩⟩
  | kept _ _ range => exact ⟨h.1, range h.2⟩
  | tick polling =>
    obtain ⟨⟨errors, since, run, idle, sample⟩, sec⟩ := h
    unfold Sensor.tick
    split
    · exact ⟨⟨errors, min_le_right _ _, run, idle, sample⟩, sec⟩
    · exact ⟨⟨errors, since, run, idle, sample⟩, sec⟩

/-! ### Link settings and the attenuation table -/

/-- The settings of the links and the attenuation table in their ranges. -/
def TablesOk (s : State) : Prop := linksOk s.slu.settings ∧ ∀ p : Fin 16, s.dle.attenuation.get p ≤ 256

theorem linksOk_factory : linksOk factoryLinks := by
  refine ⟨by decide, by decide, fun l => ?_⟩
  rw [show factoryLinks.links.get l = ⟨.lc0, 32⟩ from Table.get_const _ _]
  decide

theorem attenuationOk_factory (p : Fin 16) : Live.factory.attenuation.get p ≤ 256 := by
  have entry : Live.factory.attenuation.get p = 256 - 16 * p.val := Table.get_ofFn (fun p : Fin 16 => 256 - 16 * p.val) p rfl
  omega

theorem tablesOk_loaded (s : State) : linksOk s.loaded.links ∧ ∀ p : Fin 16, s.loaded.attenuation.get p ≤ 256 := by
  unfold loaded
  split
  · refine ⟨linksOk_clamped fun l => ?_, fun p => ?_⟩
    · simp only [Table.get_map]
      exact Nat.le_of_lt_succ (BitVec.isLt _)
    · simp only [Settings.live, Table.get_map]
      exact min_le_right _ _
  · exact ⟨linksOk_factory, attenuationOk_factory⟩

theorem tablesOk_congr {s t : State} (h : TablesOk s) (settings : t.slu.settings = s.slu.settings)
    (attenuation : t.dle.attenuation = s.dle.attenuation) : TablesOk t := by
  rw [TablesOk, settings, attenuation]; exact h

theorem changeSensor_settings (s : State) (i : Fin 16) (present : Bool) :
    (s.changeSensor i present).slu.settings = s.slu.settings := by
  simp only [changeSensor, handOff_slu, setSlu_slu]
  split_ifs <;> (try split) <;> (try split_ifs) <;> rfl

theorem tablesOk_effect {s t : State} (e : Effect s t) (h : TablesOk s) : TablesOk t := by
  cases e with
  | fullReset | holdReset => exact ⟨linksOk_factory, attenuationOk_factory⟩
  | load => exact tablesOk_loaded s
  | links change => exact ⟨change.settings h.1, h.2⟩
  | judged => exact tablesOk_congr h rfl rfl
  | sensor i present => exact tablesOk_congr h (changeSensor_settings s i present) rfl
  | daylight change => exact ⟨h.1, change.attenuation h.2⟩
  | night => exact tablesOk_congr h (by unfold enterStandby; split <;> rfl) (by unfold enterStandby; split <;> rfl)
  | day => exact tablesOk_congr h (by unfold leaveStandby; split <;> rfl) (by simp)
  | cells w => exact tablesOk_congr h (by unfold CellWrite.apply; dsimp only; split <;> simp) (by unfold CellWrite.apply; dsimp only; split <;> simp)
  | _ => exact tablesOk_congr h (by simp) (by simp)

theorem sensorRanges_iff (s : State) :
    s.SensorRanges ↔ (TablesOk s ∧ ∀ i : Fin 16, RecordsOk (s.slu.sensors.get i) (s.dle.sections.get i)) :=
  ⟨fun h => ⟨⟨h.links, h.attenuation⟩, fun i => ⟨h.sensors i, h.sections i⟩⟩,
    fun h => ⟨h.1.1, fun i => (h.2 i).1, fun i => (h.2 i).2, h.1.2⟩⟩

theorem sensorRanges_effect {s t : State} (e : Effect s t) (h : s.SensorRanges) : t.SensorRanges := by
  obtain ⟨tables, records⟩ := (sensorRanges_iff s).mp h
  exact (sensorRanges_iff t).mpr ⟨tablesOk_effect e tables, fun i => ok_step (recordsStep_effect e i) (records i)⟩

theorem sensorRanges_advance {s : State} (h : s.SensorRanges) : s.advance.SensorRanges := by
  obtain ⟨tables, records⟩ := (sensorRanges_iff s).mp h
  exact (sensorRanges_iff _).mpr ⟨tablesOk_congr tables rfl rfl, fun i => ok_step (recordsStep_advance s i) (records i)⟩

/-- Settles O15. -/
theorem stepKeepsSensorRanges : Obligations.StepKeepsSensorRanges := fun _ _ ranges step =>
  step_keeps (P := SensorRanges) (fun _ _ h => ⟨h.links, h.sensors, h.sections, h.attenuation⟩) (fun _ _ => sensorRanges_effect)
    (fun _ _ => sensorRanges_advance) step ranges.sensors

end Sys2Proof.Proofs.Sensors
end

section
/-! PROOF. What a calibration write leaves in each block, said once (R11 to R17, R5, R87, R117, R142). -/

namespace Sys2Proof.Machine

namespace CellWrite

/-- The state after a taken WRITE CELL FIELD but for the notification of the RLU (R14). -/
def written (w : CellWrite) (s : State) : State :=
  ((s.freezeRow w.row).setCt (w.onto (s.freezeRow w.row).ct)).presenceEffects s.ct

theorem apply_eq (w : CellWrite) (s : State) :
    w.apply s = if w.notifies s.ct = true then (w.written s).regrid else w.written s := rfl

/-- A block the notification leaves is as the write leaves it. -/
theorem apply_ct (w : CellWrite) (s : State) : (w.apply s).ct = (w.written s).ct := by rw [apply_eq]; split <;> rfl
theorem apply_lau (w : CellWrite) (s : State) : (w.apply s).lau = (w.written s).lau := by rw [apply_eq]; split <;> rfl
theorem apply_fdu (w : CellWrite) (s : State) : (w.apply s).fdu = (w.written s).fdu := by rw [apply_eq]; split <;> rfl
theorem apply_llc (w : CellWrite) (s : State) : (w.apply s).llc = (w.written s).llc := by rw [apply_eq]; split <;> rfl

theorem written_rlu (w : CellWrite) (s : State) : (w.written s).rlu = s.rlu := by simp [written]

theorem onto_record (w : CellWrite) (t : CellTable) (c : Fin 256) : (w.onto t).cells.get c = w.record c (t.cells.get c) :=
  Table.get_ofFn (d := 8) (fun c : Fin 256 => w.record c (t.cells.get c)) c rfl

/-- Every cell's record after the write, in the run or not (R13). -/
theorem written_record (w : CellWrite) (s : State) (c : Fin 256) :
    (w.written s).ct.cells.get c = w.record c (s.ct.cells.get c) := by
  show (w.onto (s.freezeRow w.row).ct).cells.get c = _
  rw [onto_record, State.freezeRow_cells]

theorem written_rows (w : CellWrite) (s : State) : (w.written s).ct.rows = (s.freezeRow w.row).ct.rows := rfl

/-- A held base after the write: absent for a cell gone, the floor for one come, else as the freeze left it (R5, R17). -/
theorem written_held (w : CellWrite) (s : State) (c : Fin 256) :
    (w.written s).ct.held.get c =
      if s.ct.present c = true ∧ (w.written s).ct.present c = false then none
      else if s.ct.present c = false ∧ (w.written s).ct.present c = true then
        if (w.written s).ct.frozenCell c = true then some ((w.written s).ct.cells.get c).floor else none
      else (s.freezeRow w.row).ct.held.get c := by
  have raw := Table.get_ofFn_eq (t := (w.written s).ct.held) (f := fun c : Fin 256 =>
      if (s.ct.present c && !(w.written s).ct.present c) = true then none
      else if (!s.ct.present c && (w.written s).ct.present c) = true then
        if (w.written s).ct.frozenCell c = true then some ((w.written s).ct.cells.get c).floor else none
      else (s.freezeRow w.row).ct.held.get c) rfl rfl c
  simpa only [Bool.and_eq_true, Bool.not_eq_true'] using raw

/-- An LAU record after the write: cleared for a cell gone or come (R87). -/
theorem written_lau (w : CellWrite) (s : State) (c : Fin 256) :
    (w.written s).lau.cells.get c =
      if s.ct.present c = (w.written s).ct.present c then s.lau.cells.get c else .cleared := by
  have raw := Proofs.Dithered.presenceEffects_lau ((s.freezeRow w.row).setCt (w.onto (s.freezeRow w.row).ct)) s.ct
  have same : (w.written s).lau.cells.get c = _ := congrArg (fun l : Levels => l.cells.get c) raw
  rw [same, Table.get_ofFn _ _ rfl]
  simp only [State.setCt_lau, State.freezeRow_lau]
  rfl

theorem written_mode (w : CellWrite) (s : State) : (w.written s).lau.mode = s.lau.mode := by
  show (s.freezeRow w.row).lau.mode = _
  rw [State.freezeRow_lau]

/-- A fade level after the write: absent for a cell gone (R117). -/
theorem written_levels (w : CellWrite) (s : State) (c : Fin 256) :
    (w.written s).fdu.levels.get c =
      if s.ct.present c = true ∧ (w.written s).ct.present c = false then none else s.fdu.levels.get c := by
  have raw := Table.get_ofFn_eq (t := (w.written s).fdu.levels) (f := fun c : Fin 256 =>
      if (s.ct.present c && !(w.written s).ct.present c) = true then none else (s.freezeRow w.row).fdu.levels.get c) rfl rfl c
  simpa only [Bool.and_eq_true, Bool.not_eq_true', State.freezeRow_fdu] using raw

theorem written_fdu (w : CellWrite) (s : State) :
    (w.written s).fdu.profiles = s.fdu.profiles ∧ (w.written s).fdu.timer = s.fdu.timer := by
  have frozen := State.freezeRow_fdu s w.row
  have profiles : (s.freezeRow w.row).fdu.profiles = s.fdu.profiles := by rw [frozen]
  have timer : (s.freezeRow w.row).fdu.timer = s.fdu.timer := by rw [frozen]
  exact ⟨profiles, timer⟩

/-- A taken level after the write: absent for a cell gone (R142). -/
theorem written_taken (w : CellWrite) (s : State) (c : Fin 256) :
    (w.written s).llc.taken.get c =
      if s.ct.present c = true ∧ (w.written s).ct.present c = false then none else s.llc.taken.get c := by
  have raw := Table.get_ofFn_eq (t := (w.written s).llc.taken) (f := fun c : Fin 256 =>
      if (s.ct.present c && !(w.written s).ct.present c) = true then none else (s.freezeRow w.row).llc.taken.get c) rfl rfl c
  simpa only [Bool.and_eq_true, Bool.not_eq_true', State.freezeRow_llc] using raw

/-- A row's age after the write: it follows the row's being configured (R142). -/
theorem written_ages (w : CellWrite) (s : State) (r : Fin 8) :
    (w.written s).llc.ages.get r =
      if (w.written s).ct.configured r = false then none
      else if s.ct.configured r = false then some 0 else s.llc.ages.get r := by
  have raw := Table.get_ofFn_eq (t := (w.written s).llc.ages) (f := fun r : Fin 8 =>
      if (!(w.written s).ct.configured r) = true then none
      else if (!s.ct.configured r) = true then some 0 else (s.freezeRow w.row).llc.ages.get r) rfl rfl r
  simpa only [Bool.not_eq_true', State.freezeRow_llc] using raw

/-- The cells that a write makes absent. -/
def gone (w : CellWrite) (s : State) (c : Fin 256) : Bool := s.ct.present c && !(w.written s).ct.present c

/-- The rest of the link after the write: the queue keeps its configured rows, and a burst in flight is staged for no cell gone. -/
theorem written_llc (w : CellWrite) (s : State) :
    (w.written s).llc = { s.llc with
      taken := (w.written s).llc.taken, ages := (w.written s).llc.ages,
      queue := s.llc.queue.filter (w.written s).ct.configured,
      flight := s.llc.flight.map (State.unstage (w.gone s)) } := by
  have raw : (w.written s).llc = { (s.freezeRow w.row).llc with
      taken := (w.written s).llc.taken, ages := (w.written s).llc.ages,
      queue := (s.freezeRow w.row).llc.queue.filter (w.written s).ct.configured,
      flight := (s.freezeRow w.row).llc.flight.map (State.unstage (w.gone s)) } := rfl
  rwa [State.freezeRow_llc] at raw

/-- A write of another field than the present one leaves presence as it is. -/
theorem record_present (w : CellWrite) (h : w.field ≠ .present) (c : Fin 256) (old : Calibration) :
    (w.record c old).present = old.present := by
  unfold record
  split
  · cases field : w.field <;> simp_all [Field.write]
  · rfl

end CellWrite

/-! ### WRITE ROW -/

namespace State

/-- The state after a taken WRITE ROW but for the clamp (R15, R17). -/
def rowStored (s : State) (r : Fin 8) (factor shed : Nat) : State :=
  (s.freezeRow r).setCt { (s.freezeRow r).ct with
    rows := (s.freezeRow r).ct.rows.set r { (s.freezeRow r).ct.rows.get r with daylightFactor := factor, shedLevel := shed } }

theorem writeRow_eq (s : State) (r : Fin 8) (factor shed : Nat) :
    s.writeRow r factor shed =
      if s.fsc.latch = true ∧ shed ≠ (s.ct.rows.get r).shedLevel then
        ((s.rowStored r factor shed).clampFades fun x => decide (x = r)).raiseShed
      else s.rowStored r factor shed := rfl

theorem writeRow_ct (s : State) (r : Fin 8) (factor shed : Nat) :
    (s.writeRow r factor shed).ct = (s.rowStored r factor shed).ct := by
  rw [writeRow_eq]; split <;> simp

theorem rowStored_rows (s : State) (r x : Fin 8) (factor shed : Nat) :
    (s.rowStored r factor shed).ct.rows.get x =
      if r = x then { daylightFactor := factor, shedLevel := shed, freeze := .frozen Timing.freeze } else s.ct.rows.get x := by
  rw [rowStored, setCt_ct, Table.get_set _ _ _ _ rfl, freezeRow_rows, freezeRow_rows]
  split
  · rw [if_pos rfl]
  · rfl

theorem rowStored_cells (s : State) (r : Fin 8) (factor shed : Nat) : (s.rowStored r factor shed).ct.cells = s.ct.cells :=
  freezeRow_cells s r

theorem rowStored_held (s : State) (r : Fin 8) (factor shed : Nat) :
    (s.rowStored r factor shed).ct.held = (s.freezeRow r).ct.held := rfl

/-- Presence is a matter of the records. -/
theorem present_of_cells {t u : CellTable} (h : t.cells = u.cells) : t.present = u.present := by
  funext c; rw [CellTable.present, CellTable.present, h]

theorem configured_of_cells {t u : CellTable} (h : t.cells = u.cells) : t.configured = u.configured := by
  funext r; rw [CellTable.configured, CellTable.configured, present_of_cells h]

theorem coverage_of_cells {t u : CellTable} (h : t.cells = u.cells) : t.covers = u.covers := by
  funext sel c; simp only [CellTable.covers.eq_def, present_of_cells h, h]

end State

end Sys2Proof.Machine
end

section
/-! PROOF. Every effect keeps every record in its stated range (O14, O16). -/

namespace Sys2Proof.Proofs.Ranges

open Sys2Proof.Machine Sys2Proof.Machine.State Sys2Proof.Proofs.Effects Sys2Proof.Proofs.Sensors

/-! ### Values that may be absent -/

theorem within_none (limit : Nat) : within limit none := Nat.zero_le _

theorem within_map_min {limit : Nat} {v : Option Nat} (h : within limit v) (bound : Nat) : within limit (v.map fun x => min x bound) := by
  cases v with
  | none => exact Nat.zero_le _
  | some x => exact (min_le_left _ _).trans h

theorem getD_le {limit : Nat} {v : Option Nat} (h : within limit v) {d : Nat} (hd : d ≤ limit) : v.getD d ≤ limit := by
  cases v with
  | none => exact hd
  | some x => exact h

/-! ### The grid -/

theorem calibrationOk_write {c : Calibration} (h : calibrationOk c) (f : Field) (v : Nat) : calibrationOk (f.write v c) := by
  obtain ⟨low, high, floor, target⟩ := h
  cases f with
  | efficacy => exact ⟨le_max_left _ _, max_le (by decide) (min_le_right _ _), floor, target⟩
  | floor => exact ⟨low, high, min_le_right _ _, target⟩
  | target => exact ⟨low, high, floor, min_le_right _ _⟩
  | present | profile | classByte | facade => exact ⟨low, high, floor, target⟩

theorem calibrationOk_record {w : CellWrite} {c : Fin 256} {old : Calibration} (h : calibrationOk old) : calibrationOk (w.record c old) := by
  unfold CellWrite.record
  split
  · exact calibrationOk_write h _ _
  · exact h

/-- The freeze of a row keeps the grid's ranges (R17): what it captures is a base level or a floor. -/
theorem ctRanges_freezeRow {s : State} (h : CtRanges s.ct) (lau : ∀ c : Fin 256, lauOk (s.lau.cells.get c)) (r : Fin 8) :
    CtRanges (s.freezeRow r).ct := by
  refine ⟨fun c => by rw [freezeRow_cells]; exact h.cells c, fun x => ?_, fun c => ?_⟩
  · rw [freezeRow_rows]
    split
    · exact ⟨(h.rows r).1, (h.rows r).2.1, le_refl _⟩
    · exact h.rows x
  · rw [freezeRow_held]
    split
    · exact getD_le (lau c).1 (h.cells c).2.2.1
    · exact h.held c

theorem ctRanges_thaw {s : State} (h : CtRanges s.ct) (p : Fin 8 → Bool) : CtRanges (s.unfreezeRows p).ct := by
  refine ⟨h.cells, fun r => ?_, fun c => ?_⟩
  · rw [unfreezeRows_rows]
    split
    · exact ⟨(h.rows r).1, (h.rows r).2.1, Nat.zero_le _⟩
    · exact h.rows r
  · rw [unfreezeRows_held]
    split
    · exact within_none _
    · exact h.held c

theorem ctRanges_written {s : State} (h : CtRanges s.ct) (lau : ∀ c : Fin 256, lauOk (s.lau.cells.get c)) (w : CellWrite) :
    CtRanges (w.written s).ct := by
  have frozen := ctRanges_freezeRow h lau w.row
  have cells (c : Fin 256) : calibrationOk ((w.written s).ct.cells.get c) := by
    rw [CellWrite.written_record]
    exact calibrationOk_record (h.cells c)
  refine ⟨cells, fun r => by rw [CellWrite.written_rows]; exact frozen.rows r, fun c => ?_⟩
  rw [CellWrite.written_held]
  split_ifs
  · exact within_none _
  · exact (cells c).2.2.1
  · exact within_none _
  · exact frozen.held c

theorem ctRanges_row {s : State} (h : CtRanges s.ct) (lau : ∀ c : Fin 256, lauOk (s.lau.cells.get c)) (r : Fin 8) {factor shed : Nat}
    (hf : factor ≤ 10000) (hs : shed ≤ 1000) : CtRanges (s.rowStored r factor shed).ct := by
  have frozen := ctRanges_freezeRow h lau r
  refine ⟨fun c => by rw [rowStored_cells]; exact h.cells c, fun x => ?_, fun c => by rw [rowStored_held]; exact frozen.held c⟩
  rw [rowStored_rows]
  split
  · exact ⟨hf, hs, le_refl _⟩
  · exact h.rows x

theorem calibrationOk_live (c : StoredCell) : calibrationOk c.live :=
  ⟨le_max_left _ _, max_le (by decide) (min_le_right _ _), min_le_right _ _, min_le_right _ _⟩

theorem factoryDaylightFactor_le (r : Fin 8) : factoryDaylightFactor r ≤ 10000 := by revert r; decide

theorem calibrationOk_factory (c : Fin 256) : calibrationOk (factoryCell c) := by simp [calibrationOk, factoryCell]

theorem loaded_grid (s : State) :
    (∀ c : Fin 256, calibrationOk (s.loaded.cells.get c)) ∧
      ∀ r : Fin 8, (s.loaded.rows.get r).1 ≤ 10000 ∧ (s.loaded.rows.get r).2 ≤ 1000 := by
  unfold loaded
  split
  · refine ⟨fun c => ?_, fun r => ?_⟩ <;> simp only [Settings.live, Table.get_map]
    · exact calibrationOk_live _
    · exact ⟨min_le_right _ _, min_le_right _ _⟩
  · refine ⟨fun c => ?_, fun r => ?_⟩
    · rw [Table.get_ofFn_eq (t := Live.factory.cells) (f := factoryCell) rfl rfl c]
      exact calibrationOk_factory c
    · rw [Table.get_ofFn_eq (t := Live.factory.rows) (f := fun r : Fin 8 => (factoryDaylightFactor r, 500)) rfl rfl r]
      exact ⟨factoryDaylightFactor_le r, by norm_num⟩

theorem ctRanges_load (s : State) : CtRanges s.finishLoad.ct := by
  refine ⟨(loaded_grid s).1, fun r => ?_, fun c => ?_⟩
  · have row : s.finishLoad.ct.rows.get r = ⟨(s.loaded.rows.get r).1, (s.loaded.rows.get r).2, .live⟩ := Table.get_map _ _ _
    rw [row]
    exact ⟨((loaded_grid s).2 r).1, ((loaded_grid s).2 r).2, Nat.zero_le _⟩
  · have held : s.finishLoad.ct.held.get c = none := Table.get_const _ _
    rw [held]
    exact within_none _

theorem ctRanges_reset : CtRanges State.reset.ct := by
  refine ⟨fun c => ?_, fun r => ?_, fun c => ?_⟩
  · rw [Table.get_ofFn_eq (t := State.reset.ct.cells) (f := factoryCell) rfl rfl c]
    exact calibrationOk_factory c
  · rw [Table.get_ofFn_eq (t := State.reset.ct.rows) (f := fun r : Fin 8 => ⟨factoryDaylightFactor r, 500, .live⟩) rfl rfl r]
    exact ⟨factoryDaylightFactor_le r, by norm_num, Nat.zero_le _⟩
  · rw [show State.reset.ct.held.get c = none from Table.get_const _ _]
    exact within_none _

theorem ctRanges_effect {s t : State} (e : Effect s t) (h : CtRanges s.ct) (lau : ∀ c : Fin 256, lauOk (s.lau.cells.get c)) :
    CtRanges t.ct := by
  cases e with
  | fullReset | holdReset => exact ctRanges_reset
  | load => exact ctRanges_load s
  | thaw p => exact ctRanges_thaw h p
  | cells w => rw [CellWrite.apply_ct]; exact ctRanges_written h lau w
  | row r hf hs => rw [writeRow_ct]; exact ctRanges_row h lau r hf hs
  | _ => simpa using h

theorem ctRanges_advance {s : State} (h : CtRanges s.ct) : CtRanges s.advance.ct := by
  refine ⟨h.cells, fun r => ?_, h.held⟩
  have row : s.advance.ct.rows.get r = { s.ct.rows.get r with freeze := (s.ct.rows.get r).freeze.tick } := Table.get_map _ _ _
  obtain ⟨factor, shed, left⟩ := h.rows r
  rw [row]
  refine ⟨factor, shed, ?_⟩
  cases freeze : (s.ct.rows.get r).freeze with
  | live => exact Nat.zero_le _
  | frozen n =>
    rw [freeze] at left
    exact (Nat.sub_le n 1).trans left

/-! ### The request list -/

/-- A cell's cap is the value of a CAP entry. -/
theorem leastCap_within {l : List Entry} (h : ∀ e ∈ l, entryOk e) (t : CellTable) (c : Fin 256) : within 1000 (leastCap t c l) := by
  refine List.foldlRecOn (motive := within 1000) l _ (within_none _) fun best ok e mem => ?_
  split
  · next pick =>
    have limit : e.value ≤ 1000 := by simpa [pick.1, Kind.limit] using (h e mem).1
    cases best with
    | none => exact limit
    | some v => exact (min_le_right _ _).trans limit
  · exact ok

/-- A winning entry is a listed one, and no CAP. -/
theorem mem_of_winningEntry {l : List Entry} {t : CellTable} {c : Fin 256} {e : Entry} (h : winningEntry t c l = some e) :
    e ∈ l ∧ e.kind ≠ .cap := by
  revert h
  refine List.foldlRecOn (motive := fun best => best = some e → e ∈ l ∧ e.kind ≠ .cap) l _ nofun fun best found d mem => ?_
  split
  · next pick =>
    have new : some d = some e → e ∈ l ∧ e.kind ≠ .cap := by rintro ⟨⟩; exact ⟨mem, pick.1⟩
    cases best with
    | none => exact new
    | some v =>
      dsimp only
      split
      · exact new
      · exact found
  · exact found

theorem winnerOk_asWinner {e : Entry} (h : entryOk e) : winnerOk e.asWinner := by
  have limit := h.1
  unfold Entry.asWinner
  cases kind : e.kind <;> simp only [kind, Kind.limit] at limit
  · exact limit
  · exact limit
  · trivial

theorem resolvedOk_resolve {l : List Entry} (h : ∀ e ∈ l, entryOk e) (t : CellTable) (c : Fin 256) : resolvedOk (resolve t l c) := by
  refine ⟨leastCap_within h t c, ?_⟩
  unfold resolve
  dsimp only
  split
  · trivial
  · next e found => exact winnerOk_asWinner (h e (mem_of_winningEntry found).1)

theorem listRanges_setList {s : State} (h : ListRanges s.rlu) {l : List Entry} (ok : ∀ e ∈ l, entryOk e) (sels : List Selector) :
    ListRanges (s.setList l sels).rlu := by
  refine ⟨ok, fun c => ?_⟩
  rw [setList_resolved]
  split
  · exact resolvedOk_resolve ok _ _
  · exact h.resolved c

theorem entryOk_countDown {e d : Entry} (h : entryOk e) (next : e.countDown = some d) : entryOk d := by
  obtain ⟨value, ⟨nonzero, hold⟩, form⟩ := h
  unfold Entry.countDown at next
  split at next
  · cases next; exact ⟨value, ⟨nonzero, hold⟩, form⟩
  · next n some =>
    split at next
    · cases next
    · cases next
      rw [some] at hold
      have bound : n ≤ 65535 := hold
      refine ⟨value, ⟨?_, ?_⟩, form⟩
      · simp only [ne_eq, Option.some.injEq]; omega
      · show n - 1 ≤ 65535; omega

theorem listRanges_removeEntries {s : State} (h : ListRanges s.rlu) (p : Entry → Bool) : ListRanges (s.removeEntries p).rlu :=
  listRanges_setList h (fun e he => h.entries e (List.mem_filter.mp he).1) _

theorem listRanges_countEntries {s : State} (h : ListRanges s.rlu) : ListRanges s.countEntries.rlu :=
  listRanges_setList h (fun _ he =>
    have ⟨e, mem, next⟩ := List.mem_filterMap.mp he
    entryOk_countDown (h.entries e mem) next) _

theorem listRanges_regrid {s : State} (h : ListRanges s.rlu) : ListRanges s.regrid.rlu := by
  have ok : ∀ e ∈ s.regrid.rlu.list, entryOk e := fun e he => by
    obtain ⟨old, mem, rfl⟩ := List.mem_map.mp he
    exact h.entries old mem
  exact ⟨ok, fun c => by rw [regrid_resolved]; exact resolvedOk_resolve ok _ _⟩

theorem mem_acceptInto {l : List Entry} {e x : Entry} {a : Acceptance} (h : x ∈ acceptInto l e a) : x ∈ l ∨ x = e := by
  unfold acceptInto at h
  rcases List.mem_append.mp h with old | new
  · split at old
    · exact .inl old
    · exact .inl (List.mem_filter.mp old).1
  · exact .inr (by simpa using new)

theorem listRanges_reset : ListRanges State.reset.rlu :=
  ⟨nofun, fun c => by
    rw [show State.reset.rlu.resolved.get c = .base from Table.get_const _ _]
    exact ⟨within_none _, trivial⟩⟩

theorem listRanges_congr {u v : Requests} (h : ListRanges u) (list : v.list = u.list) (resolved : v.resolved = u.resolved) :
    ListRanges v := ⟨list ▸ h.entries, resolved ▸ h.resolved⟩

theorem listRanges_effect {s t : State} (e : Effect s t) (h : ListRanges s.rlu) : ListRanges t.rlu := by
  cases e with
  | fullReset | holdReset => exact listRanges_reset
  | load => exact listRanges_congr h rfl rfl
  | rluSecond =>
    unfold rluSecond
    split
    · exact h
    · exact listRanges_countEntries (s := s.setRlu _) (listRanges_congr h rfl rfl)
  | entry placed =>
    refine listRanges_setList h (fun x hx => ?_) _
    rcases mem_acceptInto hx with old | rfl
    · exact h.entries x old
    · exact placed.range
  | remove p => exact listRanges_removeEntries h p
  | slot => exact listRanges_removeEntries (s := s.setZbi _) h _
  | cells w =>
    have kept : ListRanges (w.written s).rlu := by rw [CellWrite.written_rlu]; exact h
    rw [CellWrite.apply_eq]
    split
    · exact listRanges_regrid kept
    · exact kept
  | row r => simpa [writeRow_eq, apply_ite State.rlu, rowStored] using h
  | _ => simpa using h

end Sys2Proof.Proofs.Ranges
end

section
/-! PROOF. Every effect keeps levels, staged levels and intervals in their ranges, and with them the ranges of the whole part
(O14, O16). -/

namespace Sys2Proof.Proofs.Ranges

open Sys2Proof.Machine Sys2Proof.Machine.State Sys2Proof.Proofs.Effects Sys2Proof.Proofs.Sensors

/-! ### The level arithmetic -/

theorem quantise_le {mode : QuantMode} {residue l16 : Nat} (h : l16 < 16000) : (quantise mode residue l16).1 ≤ 1000 := by
  have whole : l16 / 16 < 1000 := Nat.div_lt_of_lt_mul (by omega)
  unfold quantise
  cases mode with
  | chop => exact whole.le
  | round => dsimp only; split <;> omega
  | dither => dsimp only; split <;> exact (by simp only; omega)

theorem levelOf_le {mode : QuantMode} {residue : Nat} {demand : Int} {efficacy : Nat} : (levelOf mode residue demand efficacy).1 ≤ 1000 := by
  unfold levelOf
  split
  · exact Nat.zero_le _
  split
  · exact le_refl _
  · next positive small =>
    refine quantise_le (Nat.div_lt_of_lt_mul ?_)
    have : demand.toNat < efficacy := by omega
    omega

/-- What the ranges of the blocks give the inputs of one computation. -/
structure InputOk (i : LauInput) : Prop where
  floor : i.floor ≤ 1000
  held : within 1000 i.held
  winner : winnerOk i.winner

theorem lauOk_formBase {i : LauInput} (h : InputOk i) {old : LauCell} (ok : lauOk old) :
    within 1000 (i.formBase old).lastBase ∧ within 65535 (i.formBase old).lastDaylight := by
  obtain ⟨-, -, daylight⟩ := ok
  unfold LauInput.formBase
  split
  · exact ⟨getD_le h.held h.floor, daylight⟩
  have bright : daylightAt i.feff i.daylightFactor i.attenuation ≤ 65535 := min_le_right _ _
  have winner := h.winner
  dsimp only
  split
  · next level found => rw [found] at winner; exact ⟨winner, bright⟩
  all_goals exact ⟨max_le levelOf_le h.floor, bright⟩

theorem limited_le (i : LauInput) (base : Nat) : i.limited base ≤ base := by
  unfold LauInput.limited
  dsimp only
  split
  · exact (min_le_left _ _).trans (min_le_left _ _)
  · exact min_le_left _ _

theorem lauOk_compute {i : LauInput} (h : InputOk i) {old : LauCell} (ok : lauOk old) : lauOk (i.compute old) := by
  obtain ⟨base, daylight⟩ := lauOk_formBase h ok
  refine ⟨base, ?_, daylight⟩
  show (if i.standby then 0 else i.limited ((i.formBase old).lastBase.getD 0)) ≤ 1000
  split
  · exact Nat.zero_le _
  · exact (limited_le i _).trans base

theorem inputOk {s : State} (ct : CtRanges s.ct) (list : ListRanges s.rlu) (c : Fin 256) : InputOk (s.lauInput c) :=
  ⟨(ct.cells c).2.2.1, ct.held c, (list.resolved c).2⟩

theorem lauOk_lauComputed {s : State} (h : s.Ranges) (c : Fin 256) : lauOk (s.lauComputed c) :=
  lauOk_compute (inputOk h.ct h.list c) (h.levels.lau c)

theorem goalOf_le {s : State} (h : s.Ranges) (c : Fin 256) : s.goalOf c ≤ 1000 := (lauOk_lauComputed h c).2.1

theorem fadedLevel_le {s : State} (h : s.Ranges) (c : Fin 256) : s.fadedLevel c ≤ 1000 := by
  have goal := goalOf_le h c
  have level := h.levels.fades c
  unfold fadedLevel
  split
  · exact goal
  · next v found =>
    rw [found] at level
    exact (moveLevel_between _ _ _).2.trans (max_le level goal)

/-! ### The parts of the level ranges -/

/-- The LAU in its ranges. -/
def LauOk (l : Levels) : Prop := ∀ c : Fin 256, lauOk (l.cells.get c)

/-- A fade profile in its range (R107). -/
abbrev profileOk (p : Profile) : Prop := 1 ≤ p.up ∧ p.up ≤ 1000 ∧ 1 ≤ p.down ∧ p.down ≤ 1000

/-- The FDU in its ranges. -/
structure FadesOk (f : Fades) : Prop where
  levels : ∀ c : Fin 256, within 1000 (f.levels.get c)
  profiles : ∀ p : Fin 8, profileOk (f.profiles.get p)

/-- The link in its ranges. -/
structure LinkOk (l : LuminaireLink) : Prop where
  taken : ∀ c : Fin 256, within 1000 (l.taken.get c)
  flight : ∀ f ∈ l.flight, flightOk f
  interval : intervalOk l.interval
  pendingInterval : ∀ v ∈ l.pendingInterval, intervalOk v

theorem levelRanges_iff (s : State) : s.LevelRanges ↔ LauOk s.lau ∧ FadesOk s.fdu ∧ LinkOk s.llc :=
  ⟨fun h => ⟨h.lau, ⟨h.fades, h.profiles⟩, ⟨h.taken, h.flight, h.interval, h.pendingInterval⟩⟩,
    fun ⟨lau, fades, link⟩ => ⟨lau, fades.levels, fades.profiles, link.taken, link.flight, link.interval, link.pendingInterval⟩⟩

/-! ### The LAU -/

theorem lauOk_cleared : lauOk .cleared := ⟨within_none _, within_none _, within_none _⟩

theorem lauOk_effect {s t : State} (e : Effect s t) (h : s.Ranges) : LauOk t.lau := by
  have old : LauOk s.lau := h.levels.lau
  cases e with
  | fullReset | holdReset =>
    intro c
    have cell : State.reset.lau.cells.get c = .cleared := Table.get_const _ _
    exact cell ▸ lauOk_cleared
  | fade =>
    intro c
    rw [Dithered.fade_lau]
    split
    · rw [fadeCells_lau]
      split
      · exact lauOk_lauComputed h c
      · exact old c
    · exact old c
  | shortfall mode cells =>
    intro c
    rcases cells c with same | same <;> rw [setLau_lau, same] <;> exact old c
  | cells w =>
    intro c
    rw [CellWrite.apply_lau, CellWrite.written_lau]
    split
    · exact old c
    · exact lauOk_cleared
  | mode m =>
    unfold setMode
    split
    · exact old
    · intro c
      rw [setLau_lau, Table.get_map]
      exact old c
  | load => exact old
  | _ => simpa using old

/-! ### The FDU -/

theorem profileOk_clamped (up down : Nat) : profileOk ⟨clampStep up, clampStep down⟩ :=
  ⟨le_max_left _ _, max_le (by decide) (min_le_right _ _), le_max_left _ _, max_le (by decide) (min_le_right _ _)⟩

theorem profileOk_factory (p : Fin 8) : profileOk (Live.factory.profiles.get p) := by
  rw [Table.get_ofFn_eq (t := Live.factory.profiles) (f := factoryProfile) rfl rfl p]
  revert p; decide

theorem profileOk_loaded (s : State) (p : Fin 8) : profileOk (s.loaded.profiles.get p) := by
  unfold loaded
  split
  · simp only [Settings.live, Table.get_map]
    exact profileOk_clamped _ _
  · exact profileOk_factory p

theorem fadesOk_clampFades {s : State} (h : FadesOk s.fdu) (p : Fin 8 → Bool) : FadesOk (s.clampFades p).fdu := by
  refine ⟨fun c => ?_, h.profiles⟩
  rw [clampFades_levels]
  split
  · exact within_map_min (h.levels c) _
  · exact h.levels c

theorem setLatch_fdu (s : State) : s.setLatch.fdu = if s.fsc.latch = true then s.fdu else (s.clampFades fun _ => true).fdu := by
  cases latch : s.fsc.latch with
  | true => rw [setLatch_of_set latch]; rfl
  | false => rw [setLatch_of_clear latch, raiseShed_fdu, latched_fdu]; rfl

theorem fadesOk_setLatch {s : State} (h : FadesOk s.fdu) : FadesOk s.setLatch.fdu := by
  rw [setLatch_fdu]
  split
  · exact h
  · exact fadesOk_clampFades h _

/-- The asserted line sets the latch, unless it was asserted already (R151). -/
theorem lineLow_fdu (s : State) : s.lineLow.fdu = s.fdu ∨ s.lineLow.fdu = (s.clampFades fun _ => true).fdu := by
  unfold lineLow
  split
  · exact .inl rfl
  · rw [setLatch_fdu]
    split
    · exact .inl rfl
    · exact .inr rfl

/-- A completion starts the fade timer at most (R109). -/
theorem complete_fdu (s : State) : s.complete.fdu = s.fdu ∨ s.complete.fdu = { s.fdu with timer := some 0 } := by
  by_cases init : s.llc.state = .init
  · cases flight : s.llc.flight with
    | none => rw [complete_of_none flight]; exact .inl rfl
    | some f =>
      rw [complete_of_flight flight]
      split
      · exact .inl (by simp)
      · cases f.frame with
        | initGroup => exact .inr (by simp [frameDone, initDone_of_init init])
        | burst r first bays => exact .inl (by simp [frameDone])
        | allTouch => exact .inl (by simp [frameDone])
        | shed levels => exact .inl (by simp [frameDone])
  · exact .inl (complete_link init).2.2.1

theorem fadesOk_timer {f : Fades} (h : FadesOk f) (n : Option Nat) : FadesOk { f with timer := n } := ⟨h.levels, h.profiles⟩

theorem fadesOk_effect {s t : State} (e : Effect s t) (h : s.Ranges) : FadesOk t.fdu := by
  have old : FadesOk s.fdu := ⟨h.levels.fades, h.levels.profiles⟩
  cases e with
  | fullReset | holdReset =>
    refine ⟨fun c => ?_, profileOk_factory⟩
    have level : State.reset.fdu.levels.get c = none := Table.get_const _ _
    exact (congrArg (within 1000) level).mpr (within_none _)
  | load => exact ⟨old.levels, profileOk_loaded s⟩
  | fade =>
    unfold fade
    split
    · exact old
    · refine ⟨fun c => ?_, by simpa using old.profiles⟩
      simp only [prompt_fdu, postRows_fdu, fadeCells_levels]
      split
      · exact fadedLevel_le h c
      · exact old.levels c
  | complete =>
    rcases complete_fdu s with same | started
    · rw [same]; exact old
    · rw [started]; exact fadesOk_timer old _
  | cells w =>
    rw [CellWrite.apply_fdu]
    refine ⟨fun c => ?_, by rw [(CellWrite.written_fdu w s).1]; exact old.profiles⟩
    rw [CellWrite.written_levels]
    split
    · exact within_none _
    · exact old.levels c
  | row r =>
    rw [writeRow_eq]
    split
    · rw [raiseShed_fdu]
      exact fadesOk_clampFades (by simpa [rowStored] using old) _
    · simpa [rowStored] using old
  | profile i up down =>
    refine ⟨old.levels, fun p => ?_⟩
    rw [setFdu_fdu, Table.get_set _ _ _ _ rfl]
    split
    · exact profileOk_clamped up down
    · exact old.profiles p
  | latch => exact fadesOk_setLatch old
  | lineLow =>
    rcases lineLow_fdu s with same | clamped
    · rw [same]; exact old
    · rw [clamped]; exact fadesOk_clampFades old _
  | _ => simpa using old

/-! ### Frames -/

/-- What staging reads, in its ranges. -/
structure Stageable (s : State) : Prop where
  fades : ∀ c : Fin 256, within 1000 (s.fdu.levels.get c)
  rows : ∀ r : Fin 8, (s.ct.rows.get r).shedLevel ≤ 1000

theorem frameOk_burst {s : State} (h : Stageable s) (r : Fin 8) : ∀ n, flightOk ⟨s.stageBurst r, 0, n, false⟩ := by
  intro n b mem
  obtain ⟨bay, -, rfl⟩ := List.mem_map.mp mem
  unfold stagedBay
  split
  · exact h.fades _
  · exact Nat.zero_le _

theorem frameOk_shed {s : State} (h : Stageable s) : ∀ n, flightOk ⟨s.stageShed, 0, n, false⟩ := fun _ r => by
  rw [Table.get_map]
  exact h.rows r

theorem linkOk_start {l : LuminaireLink} (h : LinkOk l) {f : Frame} (ok : ∀ n, flightOk ⟨f, 0, n, false⟩) : LinkOk (l.start f) :=
  ⟨h.taken, by rintro _ ⟨⟩; exact ok _, h.interval, h.pendingInterval⟩

/-- The queue and the pending flags carry no level. -/
theorem linkOk_congr {l m : LuminaireLink} (h : LinkOk l) (taken : m.taken = l.taken) (flight : m.flight = l.flight)
    (interval : m.interval = l.interval) (pendingInterval : m.pendingInterval = l.pendingInterval) : LinkOk m :=
  ⟨taken ▸ h.taken, flight ▸ h.flight, interval ▸ h.interval, pendingInterval ▸ h.pendingInterval⟩

theorem linkOk_select {s : State} (h : LinkOk s.llc) (stage : Stageable s) : LinkOk s.select.llc := by
  have burst (r : Fin 8) : LinkOk (s.unshed.startBurst r).llc :=
    linkOk_congr (linkOk_start (linkOk_congr (m := s.unshed.llc) h rfl rfl rfl rfl) (frameOk_burst stage r)) rfl rfl rfl rfl
  have touch : LinkOk (s.unshed.setLlc (s.unshed.llc.start .allTouch)).llc :=
    linkOk_start (linkOk_congr (m := s.unshed.llc) h rfl rfl rfl rfl) fun _ => trivial
  rw [select_eq]
  split
  · exact linkOk_congr (linkOk_start h (frameOk_shed stage)) rfl rfl rfl rfl
  split
  · exact linkOk_congr (linkOk_start (f := .initGroup) h fun _ => trivial) rfl rfl rfl rfl
  split
  · exact touch
  split
  · split
    · exact burst _
    · exact touch
  · split
    · exact burst _
    · exact linkOk_congr h rfl rfl rfl rfl

theorem linkOk_prompt {s : State} (h : LinkOk s.llc) (stage : Stageable s) : LinkOk s.prompt.llc := by
  unfold prompt
  split
  · exact linkOk_select h stage
  · exact h

theorem linkOk_post {l : LuminaireLink} (h : LinkOk l) (r : Fin 8) : LinkOk (l.post r) := by
  rw [post_eq]
  exact linkOk_congr h rfl rfl rfl rfl

theorem linkOk_taken {l : LuminaireLink} (h : LinkOk l) {taken : Table (Option Nat) 8} (ok : ∀ c : Fin 256, within 1000 (taken.get c))
    (ages : Table (Option Nat) 3) : LinkOk { l with taken, ages } := ⟨ok, h.flight, h.interval, h.pendingInterval⟩

theorem linkOk_applyInterval {s : State} (h : LinkOk s.llc) : LinkOk s.applyInterval.llc := by
  rw [applyInterval_llc]
  refine ⟨h.taken, h.flight, ?_, nofun⟩
  cases pending : s.llc.pendingInterval with
  | none => exact h.interval
  | some v => exact h.pendingInterval v pending

/-- The levels a burst's completion records are those it staged (R129). -/
theorem burstTaken_within {s : State} (h : LinkOk s.llc) {r : Fin 8} {first : Nat} {bays : List StagedBay}
    (staged : ∀ b ∈ bays, b.level ≤ 1000) (c : Fin 256) : within 1000 (s.burstTaken r first bays c) := by
  unfold burstTaken
  split
  · split
    · next b found =>
      split
      · refine staged b ?_
        unfold stagedAt at found
        split at found
        · exact List.mem_of_getElem? found
        · cases found
      · exact h.taken c
    · exact h.taken c
  · exact h.taken c

theorem linkOk_frameDone {s : State} (h : LinkOk s.llc) {f : Flight} (ok : flightOk f) : LinkOk (s.frameDone f.frame).llc := by
  unfold flightOk at ok
  cases frame : f.frame with
  | initGroup =>
    have absent (c : Fin 256) : within 1000 ((Table.const none 8 : Table (Option Nat) 8).get c) := by
      rw [Table.get_const]; exact within_none _
    by_cases init : s.llc.state = .init
    · simp only [frameDone, initDone_of_init init, setFsc_llc, setFdu_llc, setLlc_llc, postRows_llc]
      exact ⟨absent, h.flight, h.interval, h.pendingInterval⟩
    · simp only [frameDone, initDone_of_ne init, setLlc_llc, postRows_llc]
      exact ⟨absent, h.flight, h.interval, h.pendingInterval⟩
  | burst r first bays =>
    rw [frame] at ok
    have recorded : LinkOk (s.burstRecorded r first bays).llc := by
      refine linkOk_taken h (fun c => ?_) _
      rw [Table.get_ofFn _ _ rfl]
      exact burstTaken_within h ok c
    rw [frameDone, burstDone_eq]
    split
    · exact linkOk_post recorded r
    · exact recorded
  | allTouch => exact linkOk_applyInterval (linkOk_congr h rfl rfl rfl rfl)
  | shed levels =>
    refine linkOk_applyInterval (linkOk_taken h (fun c => ?_) _)
    rw [setLlc_llc, Table.get_ofFn _ _ rfl]
    split
    · exact within_map_min (h.taken c) _
    · exact h.taken c

theorem linkOk_cutDone {s : State} (h : LinkOk s.llc) (f : Frame) : LinkOk (s.cutDone f).llc := by
  cases f with
  | burst r first bays =>
    simp only [cutDone]
    split
    · exact linkOk_post h r
    · exact h
  | initGroup => exact linkOk_congr h rfl rfl rfl rfl
  | allTouch | shed levels => exact h

theorem linkOk_complete {s : State} (h : LinkOk s.llc) (stage : Stageable s) : LinkOk s.complete.llc := by
  cases flight : s.llc.flight with
  | none => rwa [complete_of_none flight]
  | some f =>
    have ready {t : State} (link : LinkOk t.llc) (ct : t.ct = s.ct) (levels : t.fdu.levels = s.fdu.levels) : LinkOk t.freeLink.llc := by
      refine linkOk_prompt ⟨link.taken, nofun, link.interval, link.pendingInterval⟩ ⟨?_, ?_⟩
      · simpa [levels] using stage.fades
      · simpa [ct] using stage.rows
    rw [complete_of_flight flight]
    split
    · exact ready (linkOk_cutDone h _) (by simp) (by simp)
    · refine ready (linkOk_frameDone h (h.flight f flight)) (by simp) ?_
      cases f.frame with
      | initGroup => unfold frameDone initDone; dsimp only; split <;> simp
      | burst r first bays => simp [frameDone]
      | allTouch => simp [frameDone]
      | shed levels => simp [frameDone]

theorem flightOk_cut {f : Flight} (h : flightOk f) : flightOk (cutFlight f) := h

theorem linkOk_latched {s : State} (h : LinkOk s.llc) : LinkOk s.latched.llc := by
  rw [latched_llc]
  refine ⟨h.taken, fun f mem => ?_, h.interval, h.pendingInterval⟩
  dsimp only at mem
  split at mem
  · obtain ⟨g, found, rfl⟩ := Option.map_eq_some_iff.mp mem
    split
    · exact flightOk_cut (h.flight g found)
    · exact h.flight g found
  · exact h.flight f mem

theorem linkOk_raiseShed {s : State} (h : LinkOk s.llc) (stage : Stageable s) : LinkOk s.raiseShed.llc :=
  linkOk_prompt (linkOk_congr h rfl rfl rfl rfl) ⟨stage.fades, stage.rows⟩

theorem linkOk_setLatch {s : State} (h : LinkOk s.llc) (stage : Stageable s) : LinkOk s.setLatch.llc := by
  cases latch : s.fsc.latch with
  | true => rwa [setLatch_of_set latch]
  | false =>
    rw [setLatch_of_clear latch]
    refine linkOk_raiseShed (linkOk_latched h) ⟨fun c => ?_, by simpa using stage.rows⟩
    rw [latched_fdu, clampFades_levels]
    split
    · exact within_map_min (stage.fades c) _
    · exact stage.fades c

theorem flightOk_unstage {f : Flight} (h : flightOk f) (gone : Fin 256 → Bool) : flightOk (unstage gone f) := by
  unfold unstage
  split
  · next r first bays frame =>
    simp only [flightOk, frame] at h
    intro b mem
    obtain ⟨i, bound, rfl⟩ := List.mem_mapIdx.mp mem
    have level := h bays[i] (List.getElem_mem _)
    split <;> exact level
  all_goals exact h

theorem intervalOk_clamp (v : Nat) : intervalOk (clampInterval v) := by
  unfold intervalOk clampInterval
  omega

theorem intervalOk_loaded (s : State) : intervalOk s.loaded.interval := by
  unfold loaded
  split
  · exact intervalOk_clamp _
  · decide

theorem linkOk_cells {s : State} (h : LinkOk s.llc) (w : CellWrite) : LinkOk (w.apply s).llc := by
  rw [CellWrite.apply_llc]
  have taken (c : Fin 256) : within 1000 ((w.written s).llc.taken.get c) := by
    rw [CellWrite.written_taken]
    split
    · exact within_none _
    · exact h.taken c
  rw [CellWrite.written_llc]
  refine ⟨taken, fun f mem => ?_, h.interval, h.pendingInterval⟩
  obtain ⟨g, found, rfl⟩ := Option.map_eq_some_iff.mp mem
  exact flightOk_unstage (h.flight g found) _

theorem linkOk_effect {s t : State} (e : Effect s t) (h : s.Ranges) : LinkOk t.llc := by
  have old : LinkOk s.llc := ⟨h.levels.taken, h.levels.flight, h.levels.interval, h.levels.pendingInterval⟩
  have stage : Stageable s := ⟨h.levels.fades, fun r => (h.ct.rows r).2.1⟩
  cases e with
  | fullReset | holdReset =>
    refine ⟨fun c => ?_, nofun, (by decide : intervalOk 500), nofun⟩
    have level : State.reset.llc.taken.get c = none := Table.get_const _ _
    exact (congrArg (within 1000) level).mpr (within_none _)
  | load => exact ⟨old.taken, by rintro _ ⟨⟩; trivial, intervalOk_loaded s, old.pendingInterval⟩
  | lineLow =>
    unfold lineLow
    split
    · exact old
    · exact linkOk_setLatch (s := s.observe false) old ⟨stage.fades, stage.rows⟩
  | latch => exact linkOk_setLatch old stage
  | fade =>
    unfold fade
    split
    · exact old
    · refine linkOk_prompt (by rw [postRows_llc]; exact linkOk_congr old rfl rfl rfl rfl) ⟨fun c => ?_, stage.rows⟩
      rw [postRows_fdu, fadeCells_levels]
      split
      · exact fadedLevel_le h c
      · exact stage.fades c
  | complete => exact linkOk_complete old stage
  | due r =>
    unfold rowBecomesDue
    split
    · exact linkOk_prompt (linkOk_congr old rfl rfl rfl rfl) ⟨stage.fades, stage.rows⟩
    · exact old
  | reInit =>
    unfold reInitExpiry
    split
    · exact old
    · exact linkOk_prompt (linkOk_congr old rfl rfl rfl rfl) ⟨stage.fades, stage.rows⟩
  | cells w => exact linkOk_cells old w
  | @row r factor shed hf hs =>
    have link : LinkOk (s.rowStored r factor shed).llc := by simpa [rowStored] using old
    rw [writeRow_eq]
    split
    · refine linkOk_raiseShed (by simpa using link) ⟨fun c => ?_, fun x => ?_⟩
      · rw [clampFades_levels]
        have level : within 1000 ((s.rowStored r factor shed).fdu.levels.get c) := by simpa [rowStored] using stage.fades c
        split
        · exact within_map_min level _
        · exact level
      · rw [clampFades_ct, rowStored_rows]
        split
        · exact hs
        · exact stage.rows x
    · exact link
  | interval v =>
    unfold setInterval
    split
    · exact ⟨old.taken, old.flight, intervalOk_clamp v, nofun⟩
    · exact linkOk_prompt ⟨old.taken, old.flight, old.interval, by rintro _ ⟨⟩; exact intervalOk_clamp v⟩ ⟨stage.fades, stage.rows⟩
  | _ => simpa using old

/-! ### The whole part -/

theorem ranges_effect (s t : State) (e : Effect s t) (h : s.Ranges) : t.Ranges :=
  { ct := ctRanges_effect e h.ct h.levels.lau
    sensors := sensorRanges_effect e h.sensors
    list := listRanges_effect e h.list
    levels := (levelRanges_iff t).mpr ⟨lauOk_effect e h, fadesOk_effect e h, linkOk_effect e h⟩ }

theorem ranges_advance {s : State} (h : s.Ranges) : s.advance.Ranges := by
  obtain ⟨lau, fades, link⟩ := (levelRanges_iff s).mp h.levels
  refine ⟨ctRanges_advance h.ct, sensorRanges_advance h.sensors, listRanges_congr h.list rfl rfl,
    (levelRanges_iff _).mpr ⟨lau, fadesOk_timer fades _, ⟨link.taken, fun f mem => ?_, link.interval, link.pendingInterval⟩⟩⟩
  obtain ⟨g, found, rfl⟩ := Option.map_eq_some_iff.mp mem
  exact link.flight g found

theorem ranges_setPending {s : State} (h : s.Ranges) (l : List Instr) : (s.setPending l).Ranges :=
  { ct := h.ct
    sensors := ⟨h.sensors.links, h.sensors.sensors, h.sensors.sections, h.sensors.attenuation⟩
    list := h.list
    levels := ⟨h.levels.lau, h.levels.fades, h.levels.profiles, h.levels.taken, h.levels.flight, h.levels.interval,
      h.levels.pendingInterval⟩ }

theorem ranges_step {s t : State} (h : s.Ranges) (step : Machine.step s = .next t) : t.Ranges :=
  step_keeps (P := State.Ranges) (fun _ l h => ranges_setPending h l) ranges_effect (fun _ _ => ranges_advance) step h

/-- Settles O14. -/
theorem stepKeepsGridAndListRanges : Obligations.StepKeepsGridAndListRanges :=
  ⟨fun _ _ h step => (ranges_step h step).ct, fun _ _ h step => (ranges_step h step).list⟩

/-- Settles O16. -/
theorem stepKeepsLevelRanges : Obligations.StepKeepsLevelRanges := fun _ _ h step => (ranges_step h step).levels

end Sys2Proof.Proofs.Ranges
end

section
/-! PROOF. Resolution looks only at the entries that cover a cell (R78), and every effect keeps the request list bounded, keyed and
resolved (O8). -/

namespace Sys2Proof.Proofs.Listed

open Sys2Proof.Machine Sys2Proof.Machine.State Sys2Proof.Proofs.Effects Sys2Proof.Proofs.StartUp

/-! ### Resolution -/

/-- One entry's share in the choice of a winner. -/
def pickWinner (t : CellTable) (c : Fin 256) (best : Option Entry) (e : Entry) : Option Entry :=
  if e.kind ≠ .cap ∧ t.covers e.selector c then
    match best with
    | none => some e
    | some b => if b.priority ≤ e.priority then some e else best
  else best

/-- One entry's share in the choice of the least cap. -/
def pickCap (t : CellTable) (c : Fin 256) (best : Option Nat) (e : Entry) : Option Nat :=
  if e.kind = .cap ∧ t.covers e.selector c then
    match best with
    | none => some e.value
    | some v => some (min v e.value)
  else best

theorem winningEntry_eq (t : CellTable) (c : Fin 256) (l : List Entry) : winningEntry t c l = l.foldl (pickWinner t c) none := rfl

theorem leastCap_eq (t : CellTable) (c : Fin 256) (l : List Entry) : leastCap t c l = l.foldl (pickCap t c) none := rfl

/-- A fold leaves out what does not move it. -/
theorem foldl_filter_of_idle {α β : Type} (f : β → α → β) (p : α → Bool) (idle : ∀ b a, p a = false → f b a = b) (l : List α) (b : β) :
    (l.filter p).foldl f b = l.foldl f b := by
  induction l generalizing b with
  | nil => rfl
  | cons a l ih =>
    cases pick : p a with
    | true => rw [List.filter_cons_of_pos pick, List.foldl_cons, List.foldl_cons, ih]
    | false => rw [List.filter_cons_of_neg (by simp [pick]), List.foldl_cons, idle b a pick, ih]

/-- Resolution looks only at the entries that cover the cell. -/
theorem resolve_covering (t : CellTable) (l : List Entry) (c : Fin 256) :
    resolve t (l.filter fun e => t.covers e.selector c) c = resolve t l c := by
  have winner : winningEntry t c (l.filter fun e => t.covers e.selector c) = winningEntry t c l :=
    foldl_filter_of_idle (pickWinner t c) _ (fun b e uncovered => by simp [pickWinner, uncovered]) l none
  have cap : leastCap t c (l.filter fun e => t.covers e.selector c) = leastCap t c l :=
    foldl_filter_of_idle (pickCap t c) _ (fun b e uncovered => by simp [pickCap, uncovered]) l none
  rw [resolve, resolve, winner, cap]

theorem resolve_of_covering_eq {t : CellTable} {l m : List Entry} {c : Fin 256}
    (h : (l.filter fun e => t.covers e.selector c) = m.filter fun e => t.covers e.selector c) : resolve t l c = resolve t m c := by
  rw [← resolve_covering, h, resolve_covering]

/-- Entries that do not cover a cell may leave the list. -/
theorem resolve_filter {t : CellTable} {l : List Entry} {c : Fin 256} {p : Entry → Bool}
    (h : ∀ e ∈ l, t.covers e.selector c = true → p e = true) : resolve t (l.filter p) c = resolve t l c := by
  refine resolve_of_covering_eq ?_
  rw [List.filter_filter]
  refine List.filter_congr fun e mem => ?_
  cases covers : t.covers e.selector c with
  | false => rfl
  | true => rw [h e mem covers]; rfl

theorem resolve_append {t : CellTable} {l : List Entry} {c : Fin 256} {e : Entry} (h : t.covers e.selector c = false) :
    resolve t (l ++ [e]) c = resolve t l c :=
  resolve_of_covering_eq (by simp [h])

/-- A change of hold and coverage, which resolution does not read. -/
structure SameRequest (f : Entry → Entry) : Prop where
  slot : ∀ e, (f e).slot = e.slot
  tag : ∀ e, (f e).tag = e.tag
  kind : ∀ e, (f e).kind = e.kind
  value : ∀ e, (f e).value = e.value
  selector : ∀ e, (f e).selector = e.selector
  priority : ∀ e, (f e).priority = e.priority

theorem foldl_pickWinner_map {f : Entry → Entry} (h : SameRequest f) (t : CellTable) (c : Fin 256) (l : List Entry) (b : Option Entry) :
    (l.map f).foldl (pickWinner t c) (b.map f) = (l.foldl (pickWinner t c) b).map f := by
  induction l generalizing b with
  | nil => rfl
  | cons e l ih =>
    have one : pickWinner t c (b.map f) (f e) = (pickWinner t c b e).map f := by
      unfold pickWinner
      rw [h.kind, h.selector]
      cases b with
      | none => simp only [Option.map_none, apply_ite (Option.map f), Option.map_some]
      | some d =>
        simp only [Option.map_some, h.priority]
        split_ifs <;> rfl
    rw [List.map_cons, List.foldl_cons, List.foldl_cons, one, ih]

theorem resolve_map {f : Entry → Entry} (h : SameRequest f) (t : CellTable) (l : List Entry) (c : Fin 256) :
    resolve t (l.map f) c = resolve t l c := by
  have winner : winningEntry t c (l.map f) = (winningEntry t c l).map f := foldl_pickWinner_map h t c l none
  have cap : leastCap t c (l.map f) = leastCap t c l := by
    rw [leastCap_eq, leastCap_eq, List.foldl_map]
    congr
    funext b e
    simp only [pickCap, h.kind, h.selector, h.value]
  rw [resolve, resolve, winner, cap]
  cases winningEntry t c l with
  | none => rfl
  | some e =>
    have same : (f e).asWinner = e.asWinner := by rw [Entry.asWinner, Entry.asWinner, h.kind, h.slot, h.tag, h.value]
    simp only [Option.map_some, same]

theorem resolve_nil (t : CellTable) (c : Fin 256) : resolve t [] c = .base := rfl

/-- Resolution reads the grid by what its selectors cover. -/
theorem resolve_congr {t u : CellTable} (h : t.covers = u.covers) : resolve t = resolve u := by
  funext l c
  have winner : winningEntry t c l = winningEntry u c l := by rw [winningEntry_eq, winningEntry_eq]; unfold pickWinner; rw [h]
  have cap : leastCap t c l = leastCap u c l := by rw [leastCap_eq, leastCap_eq]; unfold pickCap; rw [h]
  rw [resolve, resolve, winner, cap]

theorem coverage_congr {t u : CellTable} (h : t.covers = u.covers) : t.coverage = u.coverage := by
  funext sel; rw [CellTable.coverage, CellTable.coverage, h]

/-! ### A changed list -/

theorem listed_congr {s t : State} (h : s.Listed) (covers : t.ct.covers = s.ct.covers) (slots : t.zbi.slots = s.zbi.slots)
    (list : t.rlu.list = s.rlu.list) (resolved : t.rlu.resolved = s.rlu.resolved) : t.Listed :=
  { room := list ▸ h.room
    keys := list ▸ h.keys
    tied := by rw [list, slots]; exact h.tied
    counts := by rw [list, coverage_congr covers]; exact h.counts
    records := by rw [list, resolved, resolve_congr covers]; exact h.records }

theorem listed_setList {s : State} {l : List Entry} {sels : List Selector} (room : l.length ≤ Config.listCapacity)
    (keys : l.Pairwise fun e f => e.sameKey f = false)
    (tied : ∀ e ∈ l, (s.zbi.slots.get e.slot).role ≠ .empty ∧ e.priority = (s.zbi.slots.get e.slot).priority)
    (counts : ∀ e ∈ l, e.coverage = s.ct.coverage e.selector)
    (records : ∀ c : Fin 256, (∀ sel ∈ sels, s.ct.covers sel c = false) → s.rlu.resolved.get c = resolve s.ct l c) :
    (s.setList l sels).Listed := by
  refine ⟨room, keys, tied, counts, fun c => ?_⟩
  rw [setList_resolved, setList_ct, setList_list]
  split
  · rfl
  · next uncovered => exact records c (by simpa using uncovered)

theorem removeEntries_records {s : State} {p : Entry → Bool} (h : ∀ c : Fin 256, s.rlu.resolved.get c = resolve s.ct s.rlu.list c)
    (c : Fin 256) (uncovered : ∀ sel ∈ (s.rlu.list.filter p).map Entry.selector, s.ct.covers sel c = false) :
    s.rlu.resolved.get c = resolve s.ct (s.rlu.list.filter fun e => !p e) c := by
  rw [h c, resolve_filter fun e mem covers => ?_]
  cases picked : p e with
  | false => rfl
  | true =>
    have := uncovered e.selector (List.mem_map.mpr ⟨e, List.mem_filter.mpr ⟨mem, picked⟩, rfl⟩)
    rw [this] at covers
    cases covers

theorem listed_removeEntries {s : State} (h : s.Listed) (p : Entry → Bool) : (s.removeEntries p).Listed := by
  have kept {e : Entry} (mem : e ∈ s.rlu.list.filter fun e => !p e) : e ∈ s.rlu.list := (List.mem_filter.mp mem).1
  exact listed_setList ((List.length_filter_le _ _).trans h.room) (h.keys.filter _) (fun e mem => h.tied e (kept mem))
    (fun e mem => h.counts e (kept mem)) (removeEntries_records h.records)

/-- A slot's write purges the slot's entries, so that the rest are still tied (R77). -/
theorem listed_writeSlot {s : State} (h : s.Listed) (n : Fin 8) (m : MasterSlot) : (s.writeSlot n m).Listed := by
  have kept {e : Entry} (mem : e ∈ s.rlu.list.filter fun e => !decide (e.slot = n)) : e ∈ s.rlu.list ∧ n ≠ e.slot := by
    obtain ⟨mem, other⟩ := List.mem_filter.mp mem
    exact ⟨mem, fun same => by simp [same] at other⟩
  refine listed_setList (s := s.setZbi _) ((List.length_filter_le _ _).trans h.room) (h.keys.filter _) (fun e mem => ?_)
    (fun e mem => h.counts e (kept mem).1) (removeEntries_records (s := s.setZbi _) h.records)
  rw [setZbi_zbi, Table.get_set_ne _ _ (kept mem).2 rfl]
  exact h.tied e (kept mem).1

/-! ### The one-second timer -/

/-- An entry that outlives an expiry, one second later. -/
def counted (e : Entry) : Entry := { e with hold := e.hold.map (· - 1) }

theorem countDown_eq_counted (e : Entry) : e.countDown = if e.countDown.isSome = true then some (counted e) else none := by
  rw [countDown_eq]
  cases hold : e.hold with
  | none => simp [counted, hold]; rw [← hold]
  | some n => dsimp only; split_ifs <;> simp_all [counted]

theorem filterMap_countDown (l : List Entry) : l.filterMap Entry.countDown = (l.filter fun e => e.countDown.isSome).map counted := by
  induction l with
  | nil => rfl
  | cons e l ih =>
    have one := countDown_eq_counted e
    cases next : e.countDown with
    | none => rw [List.filterMap_cons_none next, List.filter_cons_of_neg (by simp [next]), ih]
    | some d =>
      rw [next] at one
      obtain rfl : d = counted e := by simpa using one
      rw [List.filterMap_cons_some next, List.filter_cons_of_pos (by simp [next]), List.map_cons, ih]

theorem sameRequest_counted : SameRequest counted := ⟨fun _ => rfl, fun _ => rfl, fun _ => rfl, fun _ => rfl, fun _ => rfl, fun _ => rfl⟩

theorem countEntries_records {s : State} (h : ∀ c : Fin 256, s.rlu.resolved.get c = resolve s.ct s.rlu.list c) (c : Fin 256)
    (uncovered : ∀ sel ∈ (s.rlu.list.filter fun e => e.countDown.isNone).map Entry.selector, s.ct.covers sel c = false) :
    s.rlu.resolved.get c = resolve s.ct (s.rlu.list.filterMap Entry.countDown) c := by
  rw [filterMap_countDown, resolve_map sameRequest_counted]
  have := removeEntries_records h c uncovered
  simpa using this

theorem listed_countEntries {s : State} (h : s.Listed) : s.countEntries.Listed := by
  have kept {d : Entry} (mem : d ∈ s.rlu.list.filterMap Entry.countDown) : ∃ e ∈ s.rlu.list, counted e = d := by
    rw [filterMap_countDown] at mem
    obtain ⟨e, mem, same⟩ := List.mem_map.mp mem
    exact ⟨e, (List.mem_filter.mp mem).1, same⟩
  refine listed_setList ((List.length_filterMap_le _ _).trans h.room) ?_ (fun d mem => ?_) (fun d mem => ?_) (countEntries_records h.records)
  · rw [filterMap_countDown]
    exact List.pairwise_map.mpr (h.keys.filter _)
  · obtain ⟨e, old, rfl⟩ := kept mem
    exact h.tied e old
  · obtain ⟨e, old, rfl⟩ := kept mem
    exact h.counts e old

/-! ### A new entry -/

theorem sameKey_iff (e f : Entry) : e.sameKey f = true ↔ e.slot = f.slot ∧ e.tag = f.tag := by simp [Entry.sameKey]

theorem sameKey_comm (e f : Entry) : e.sameKey f = f.sameKey e := by
  rw [Bool.eq_iff_iff, sameKey_iff, sameKey_iff, eq_comm (a := e.slot), eq_comm (a := e.tag)]

theorem sameKey_trans {d e f : Entry} (h : d.sameKey e = true) (h' : e.sameKey f = true) : d.sameKey f = true := by
  rw [sameKey_iff] at *
  exact ⟨h.1.trans h'.1, h.2.trans h'.2⟩

theorem sameKey_self (e : Entry) : e.sameKey e = true := by simp [sameKey_iff]

/-- Distinct keys: two listed entries of one key are one entry. -/
theorem eq_of_sameKey {l : List Entry} (h : l.Pairwise fun e f => e.sameKey f = false) {e f : Entry} (he : e ∈ l) (hf : f ∈ l)
    (same : e.sameKey f = true) : e = f := by
  by_contra ne
  have symm : Std.Symm fun e f : Entry => e.sameKey f = false := ⟨fun e f apart => by rw [sameKey_comm]; exact apart⟩
  have apart := h.forall he hf ne
  rw [same] at apart
  cases apart

theorem foldl_evict_mem {p : Fin 8} {l : List Entry} {old : Entry} (h : evictionCandidate p l = some old) : old ∈ l := by
  revert h
  refine List.foldlRecOn (motive := fun best => best = some old → old ∈ l) l _ nofun fun best found e mem => ?_
  have new : some e = some old → old ∈ l := by rintro ⟨⟩; exact mem
  split
  · cases best with
    | none => exact new
    | some b =>
      dsimp only
      split
      · exact new
      · exact found
  · exact found

/-- Where an accepted entry goes: in place of its key, at the end of a list with room, or in place of the candidate. -/
theorem placeFor_cases {l : List Entry} {e : Entry} {a : Acceptance} (h : placeFor l e = some a) :
    (∃ old ∈ l, e.sameKey old = true ∧ a = .replaced old) ∨
      (∀ x ∈ l, e.sameKey x = false) ∧
        ((l.length < Config.listCapacity ∧ a = .appended) ∨ ∃ old, evictionCandidate e.priority l = some old ∧ a = .evicted old) := by
  unfold placeFor at h
  split at h
  · next old found =>
    cases h
    exact .inl ⟨old, List.mem_of_find?_eq_some found, List.find?_some found, rfl⟩
  · next none =>
    refine .inr ⟨fun x mem => by simpa using List.find?_eq_none.mp none x mem, ?_⟩
    split at h
    · next room => cases h; exact .inl ⟨room, rfl⟩
    · obtain ⟨old, found, rfl⟩ := Option.map_eq_some_iff.mp h
      exact .inr ⟨old, found, rfl⟩

/-- The list an accepted entry joins: the old one but for the leaver, whose key no other entry has. -/
structure Joined (l m : List Entry) (e : Entry) (a : Acceptance) : Prop where
  list : acceptInto l e a = m ++ [e]
  kept : ∀ x ∈ m, x ∈ l ∧ e.sameKey x = false
  ordered : m.Sublist l
  room : l.length ≤ Config.listCapacity → m.length < Config.listCapacity
  records : ∀ (t : CellTable) (c : Fin 256), (∀ old ∈ a.leaver, t.covers old.selector c = false) → resolve t m c = resolve t l c

theorem joined_leaver {l : List Entry} (keys : l.Pairwise fun e f => e.sameKey f = false) {e old : Entry} {a : Acceptance}
    (leaver : a.leaver = some old) (mem : old ∈ l) (apart : ∀ x ∈ l, x.sameKey old = false → e.sameKey x = false) :
    Joined l (l.filter fun x => !x.sameKey old) e a := by
  refine ⟨by rw [acceptInto, leaver], fun x hx => ?_, List.filter_sublist, fun room => ?_, fun t c uncovered => ?_⟩
  · obtain ⟨hx, other⟩ := List.mem_filter.mp hx
    exact ⟨hx, apart x hx (by simpa using other)⟩
  · refine lt_of_lt_of_le (List.length_filter_lt_length_iff_exists.mpr ⟨old, mem, ?_⟩) room
    simp [sameKey_self]
  · refine resolve_filter fun x hx covers => ?_
    cases same : x.sameKey old with
    | false => rfl
    | true =>
      obtain rfl := eq_of_sameKey keys hx mem same
      rw [uncovered x leaver] at covers
      cases covers

theorem joined_of_place {l : List Entry} (keys : l.Pairwise fun e f => e.sameKey f = false) {e : Entry} {a : Acceptance}
    (place : placeFor l e = some a) : ∃ m, Joined l m e a := by
  rcases placeFor_cases place with ⟨old, mem, same, rfl⟩ | ⟨fresh, ⟨room, rfl⟩ | ⟨old, candidate, rfl⟩⟩
  · refine ⟨_, joined_leaver keys rfl mem fun x _ apart => ?_⟩
    by_contra key
    rw [Bool.not_eq_false, sameKey_comm] at key
    rw [sameKey_trans key same] at apart
    cases apart
  · exact ⟨l, rfl, fun x mem => ⟨mem, fresh x mem⟩, .refl l, fun _ => room, fun _ _ _ => rfl⟩
  · exact ⟨_, joined_leaver keys rfl (foldl_evict_mem candidate) fun x mem _ => fresh x mem⟩

theorem listed_entry {s : State} (h : s.Listed) {e : Entry} {a : Acceptance} (placed : EntryPlaced s e a) :
    (s.setList (acceptInto s.rlu.list e a) (e.selector :: (a.leaver.map Entry.selector).toList)).Listed := by
  obtain ⟨m, joined⟩ := joined_of_place h.keys placed.place
  rw [joined.list]
  have mem {x : Entry} (hx : x ∈ m ++ [e]) : x ∈ s.rlu.list ∨ x = e := by
    rcases List.mem_append.mp hx with old | new
    · exact .inl (joined.kept x old).1
    · exact .inr (by simpa using new)
  refine listed_setList ?_ ?_ (fun x hx => ?_) (fun x hx => ?_) (fun c uncovered => ?_)
  · simpa using joined.room h.room
  · refine List.pairwise_append.mpr ⟨h.keys.sublist joined.ordered, List.pairwise_singleton _ _, fun x hx y hy => ?_⟩
    obtain rfl : y = e := by simpa using hy
    rw [sameKey_comm]
    exact (joined.kept x hx).2
  · rcases mem hx with old | rfl
    · exact h.tied x old
    · exact ⟨placed.live, placed.priority⟩
  · rcases mem hx with old | rfl
    · exact h.counts x old
    · exact placed.coverage
  · rw [resolve_append (uncovered _ List.mem_cons_self), joined.records _ _ fun old leaver => ?_, h.records c]
    exact uncovered _ (List.mem_cons_of_mem _ (by simpa using ⟨old, leaver, rfl⟩))

/-! ### The grid -/

theorem covers_of_records {t u : CellTable}
    (h : ∀ c : Fin 256, (t.cells.get c).present = (u.cells.get c).present ∧ (t.cells.get c).classByte = (u.cells.get c).classByte) :
    t.covers = u.covers := by
  funext sel c
  simp only [CellTable.covers.eq_def, CellTable.present, (h c).1, (h c).2]

/-- A write that does not notify the RLU leaves what every selector covers (R14). -/
theorem covers_of_not_notifies {w : CellWrite} {s : State} (h : ¬w.notifies s.ct = true) : (w.written s).ct.covers = s.ct.covers := by
  refine covers_of_records fun c => ?_
  rw [CellWrite.written_record]
  simp only [CellWrite.notifies, Bool.and_eq_true, Bool.or_eq_true, decide_eq_true_eq, not_and, List.any_eq_true, not_exists] at h
  by_cases named : w.field = .present ∨ w.field = .classByte
  · have same : w.record c (s.ct.cells.get c) = s.ct.cells.get c := by
      simpa using h named c (List.mem_finRange c)
    rw [same]
    exact ⟨rfl, rfl⟩
  · obtain ⟨present, classByte⟩ := not_or.mp named
    refine ⟨CellWrite.record_present w present c _, ?_⟩
    unfold CellWrite.record
    split
    · cases field : w.field <;> simp_all [Field.write]
    · rfl

theorem listed_regrid {s : State} (room : s.rlu.list.length ≤ Config.listCapacity)
    (keys : s.rlu.list.Pairwise fun e f => e.sameKey f = false)
    (tied : ∀ e ∈ s.rlu.list, (s.zbi.slots.get e.slot).role ≠ .empty ∧ e.priority = (s.zbi.slots.get e.slot).priority) :
    s.regrid.Listed := by
  refine ⟨by simpa using room, List.pairwise_map.mpr keys, fun x mem => ?_, fun x mem => ?_, fun c => regrid_resolved s c⟩
  all_goals
    obtain ⟨e, old, rfl⟩ := List.mem_map.mp mem
  · exact tied e old
  · rfl

theorem listed_cells {s : State} (h : s.Listed) (w : CellWrite) : (w.apply s).Listed := by
  have rlu := CellWrite.written_rlu w s
  have zbi : (w.written s).zbi = s.zbi := by simp [CellWrite.written]
  rw [CellWrite.apply_eq]
  split
  · exact listed_regrid (rlu ▸ h.room) (rlu ▸ h.keys) (by rw [rlu, zbi]; exact h.tied)
  · next silent => exact listed_congr h (covers_of_not_notifies silent) (by rw [zbi]) (by rw [rlu]) (by rw [rlu])

/-! ### Effects -/

theorem listed_reset {t : State} (rlu : t.rlu = State.reset.rlu) : t.Listed := by
  have list : t.rlu.list = [] := by rw [rlu]; rfl
  refine ⟨by simp [list], by simp [list], by simp [list], by simp [list], fun c => ?_⟩
  rw [list, rlu, resolve_nil]
  exact Table.get_const _ _

/-- Before the load nothing is listed, so that every record is BASE on any grid (R63). -/
theorem listed_load {s : State} (start : s.StartUp) (loading : s.sst.loading.isSome = true) (h : s.Listed) : s.finishLoad.Listed := by
  have list : s.rlu.list = [] := start.noEntries (start.starting.mpr (by simp [start.off.mpr (.inl loading)]))
  have same : s.finishLoad.rlu.list = [] := list
  refine ⟨by simp [same], by simp [same], by simp [same], by simp [same], fun c => ?_⟩
  rw [same, resolve_nil]
  have := h.records c
  rwa [list, resolve_nil] at this

theorem listed_effect {s t : State} (e : Effect s t) (start : s.StartUp) (h : s.Listed) : t.Listed := by
  cases e with
  | bus change => exact listed_congr h rfl change.slots rfl rfl
  | fullReset | holdReset => exact listed_reset rfl
  | load free loading => exact listed_load start loading h
  | rluSecond =>
    unfold rluSecond
    split
    · exact h
    · exact listed_countEntries (s := s.setRlu _) (listed_congr h rfl rfl rfl rfl)
  | entry placed => exact listed_entry h placed
  | remove p => exact listed_removeEntries h p
  | slot => exact listed_writeSlot h _ _
  | cells w => exact listed_cells h w
  | row r =>
    refine listed_congr h (coverage_of_cells ?_) (by simp) (by simp) (by simp)
    rw [writeRow_ct, rowStored_cells]
  | own => unfold setOwn; split; exacts [h, listed_congr h rfl rfl rfl rfl]
  | thaw p => exact listed_congr h (coverage_of_cells rfl) rfl rfl rfl
  | _ => exact listed_congr h (by simp) (by simp) (by simp) (by simp)

/-- Settles O8. -/
theorem stepKeepsListed : Obligations.StepKeepsListed := fun _ _ start h step =>
  step_keeps_started (fun _ _ h => listed_congr h rfl rfl rfl rfl) (fun _ _ => listed_effect)
    (fun _ _ h => listed_congr h (coverage_of_cells rfl) rfl rfl rfl) start h step

end Sys2Proof.Proofs.Listed
end

section
/-! PROOF. Every effect keeps levels, held bases, ages and queued rows in agreement with presence (O9). -/

namespace Sys2Proof.Proofs.Fitted

open Sys2Proof.Machine Sys2Proof.Machine.State Sys2Proof.Proofs.Effects Sys2Proof.Proofs.StartUp

/-! ### The parts of the agreement -/

/-- What is held for the cells agrees with presence. -/
structure CellsFitted (s : State) : Prop where
  levels : ∀ c : Fin 256, s.ct.present c = false → s.fdu.levels.get c = none
  taken : ∀ c : Fin 256, s.ct.present c = false → s.llc.taken.get c = none
  records : ∀ c : Fin 256, s.ct.present c = false → s.lau.cells.get c = .cleared
  held : ∀ c : Fin 256, (s.ct.held.get c).isSome = true ↔ (s.ct.present c = true ∧ s.ct.frozenCell c = true)

/-- What the link holds for the rows agrees with presence. -/
structure RowsFitted (t : CellTable) (l : LuminaireLink) : Prop where
  ages : l.state ≠ .off → ∀ r : Fin 8, (l.ages.get r).isSome = true ↔ t.configured r = true
  queued : ∀ r ∈ l.queue, t.configured r = true
  once : l.queue.Nodup

theorem fitted_iff (s : State) : s.Fitted ↔ CellsFitted s ∧ RowsFitted s.ct s.llc :=
  ⟨fun h => ⟨⟨h.levels, h.taken, h.records, h.held⟩, ⟨h.ages, h.queued, h.once⟩⟩,
    fun ⟨c, r⟩ => ⟨c.levels, c.taken, c.records, c.held, r.ages, r.queued, r.once⟩⟩

/-! ### Cells -/

/-- Levels may come only to present cells. -/
theorem cellsFitted_frame {s t : State} (h : CellsFitted s) (ct : t.ct = s.ct := by simp)
    (levels : ∀ c : Fin 256, s.ct.present c = false → s.fdu.levels.get c = none → t.fdu.levels.get c = none := by simp)
    (taken : ∀ c : Fin 256, s.ct.present c = false → s.llc.taken.get c = none → t.llc.taken.get c = none := by simp)
    (records : ∀ c : Fin 256, s.ct.present c = false → s.lau.cells.get c = .cleared → t.lau.cells.get c = .cleared := by simp) :
    CellsFitted t :=
  { levels := fun c absent => levels c (ct ▸ absent) (h.levels c (ct ▸ absent))
    taken := fun c absent => taken c (ct ▸ absent) (h.taken c (ct ▸ absent))
    records := fun c absent => records c (ct ▸ absent) (h.records c (ct ▸ absent))
    held := ct ▸ h.held }

/-- Held bases agree with presence and freeze. -/
def HeldFitted (t : CellTable) : Prop := ∀ c : Fin 256, (t.held.get c).isSome = true ↔ (t.present c = true ∧ t.frozenCell c = true)

theorem rowFrozen_freezeRow (s : State) (r x : Fin 8) :
    (s.freezeRow r).ct.rowFrozen x = if r = x then true else s.ct.rowFrozen x := by
  rw [CellTable.rowFrozen, freezeRow_rows]
  by_cases same : r = x
  · rw [if_pos same, if_pos same]
  · rw [if_neg same, if_neg same, CellTable.rowFrozen]

theorem present_freezeRow (s : State) (r : Fin 8) : (s.freezeRow r).ct.present = s.ct.present := present_of_cells (freezeRow_cells s r)

/-- A freeze gives every present cell of its row a held base (R17). -/
theorem heldFitted_freezeRow {s : State} (h : HeldFitted s.ct) (r : Fin 8) : HeldFitted (s.freezeRow r).ct := by
  intro c
  rw [freezeRow_held, CellTable.frozenCell, rowFrozen_freezeRow, present_freezeRow]
  by_cases row : r = rowOf c
  · subst row
    rw [if_pos rfl]
    cases present : s.ct.present c with
    | false => simp [h c, present]
    | true =>
      cases frozen : s.ct.rowFrozen (rowOf c) with
      | false => simp
      | true => simp [h c, present, CellTable.frozenCell, frozen]
  · rw [if_neg row, if_neg (fun captured => row captured.2.1.symm)]
    exact h c

theorem rowFrozen_thaw (s : State) (p : Fin 8 → Bool) (r : Fin 8) :
    (s.unfreezeRows p).ct.rowFrozen r = (s.ct.rowFrozen r && !p r) := by
  rw [CellTable.rowFrozen, unfreezeRows_rows]
  cases frozen : s.ct.rowFrozen r <;> cases picked : p r <;> simp <;> exact frozen

theorem heldFitted_thaw {s : State} (h : HeldFitted s.ct) (p : Fin 8 → Bool) : HeldFitted (s.unfreezeRows p).ct := by
  intro c
  have present : (s.unfreezeRows p).ct.present c = s.ct.present c := rfl
  rw [unfreezeRows_held, CellTable.frozenCell, rowFrozen_thaw, present]
  cases picked : p (rowOf c) with
  | false => simpa [CellTable.frozenCell] using h c
  | true =>
    have := h c
    cases frozen : s.ct.rowFrozen (rowOf c) <;> simp_all [CellTable.frozenCell]

theorem heldFitted_of_none {t : CellTable} (held : ∀ c : Fin 256, t.held.get c = none) (live : ∀ r : Fin 8, (t.rows.get r).freeze = .live) :
    HeldFitted t := fun c => by
  rw [held c, CellTable.frozenCell, CellTable.rowFrozen, live]
  simp

theorem heldFitted_written {s : State} (h : HeldFitted s.ct) (w : CellWrite) : HeldFitted (w.written s).ct := by
  intro c
  have frozen := heldFitted_freezeRow h w.row c
  rw [present_freezeRow] at frozen
  have same : (w.written s).ct.frozenCell c = (s.freezeRow w.row).ct.frozenCell c := rfl
  rw [CellWrite.written_held, same]
  cases before : s.ct.present c <;> cases after : (w.written s).ct.present c <;> simp [before, frozen]

theorem cellsFitted_cells {s : State} (h : CellsFitted s) (w : CellWrite) : CellsFitted (w.apply s) := by
  refine ⟨fun c absent => ?_, fun c absent => ?_, fun c absent => ?_, ?_⟩
  · rw [CellWrite.apply_ct] at absent
    rw [CellWrite.apply_fdu, CellWrite.written_levels]
    split
    · rfl
    · next stays => exact h.levels c (by simpa [absent] using stays)
  · rw [CellWrite.apply_ct] at absent
    rw [CellWrite.apply_llc, CellWrite.written_taken]
    split
    · rfl
    · next stays => exact h.taken c (by simpa [absent] using stays)
  · rw [CellWrite.apply_ct] at absent
    rw [CellWrite.apply_lau, CellWrite.written_lau]
    split
    · next same => exact h.records c (same.trans absent)
    · rfl
  · rw [CellWrite.apply_ct]
    exact heldFitted_written h.held w

theorem cellsFitted_fade {s : State} (h : CellsFitted s) : CellsFitted s.fade := by
  unfold fade
  split
  · exact h
  · refine cellsFitted_frame h (levels := fun c absent none => ?_) (taken := fun c _ none => ?_) (records := fun c absent cleared => ?_)
    · simp [absent, none]
    · simpa [postRows_llc] using none
    · simp [absent, cleared]

theorem cellsFitted_clampFades {s : State} (h : CellsFitted s) (p : Fin 8 → Bool) : CellsFitted (s.clampFades p) :=
  cellsFitted_frame h (levels := fun c absent none => by simp [absent, none])

/-- A completion records levels for present cells at most. -/
theorem complete_taken {s : State} {c : Fin 256} (absent : s.ct.present c = false) (none : s.llc.taken.get c = none) :
    s.complete.llc.taken.get c = Option.none := by
  cases flight : s.llc.flight with
  | none => rwa [complete_of_none flight]
  | some f =>
    rw [complete_of_flight flight]
    split
    · rw [freeLink_taken]
      cases f.frame with
      | burst r first bays =>
        simp only [cutDone]
        split
        · rw [setLlc_llc, post_eq]; exact none
        · exact none
      | initGroup | allTouch | shed levels => exact none
    · rw [freeLink_taken]
      cases f.frame with
      | initGroup =>
        by_cases init : s.llc.state = .init
        · simp [frameDone, initDone_of_init init, postRows_llc]
        · simp [frameDone, initDone_of_ne init, postRows_llc]
      | burst r first bays =>
        have recorded : (s.burstRecorded r first bays).llc.taken.get c = Option.none := by
          rw [burstRecorded, setLlc_llc, Table.get_ofFn _ _ rfl]
          simp [burstTaken, absent, none]
        simp only [frameDone, burstDone_eq]
        split
        · rw [setLlc_llc, post_eq]; exact recorded
        · exact recorded
      | allTouch => simpa [frameDone] using none
      | shed levels => simp [frameDone, shedDone, absent, none]

theorem cellsFitted_complete {s : State} (h : CellsFitted s) : CellsFitted s.complete := by
  refine cellsFitted_frame h (levels := fun c _ none => ?_) (taken := fun c absent none => complete_taken absent none)
  rcases Ranges.complete_fdu s with same | started
  · rw [same]; exact none
  · rw [started]; exact none

/-! ### Rows -/

theorem rowsFitted_frame {t u : CellTable} {l m : LuminaireLink} (h : RowsFitted t l) (configured : u.configured = t.configured)
    (state : m.state = .off ↔ l.state = .off) (ages : ∀ r : Fin 8, (m.ages.get r).isSome = (l.ages.get r).isSome)
    (queue : m.queue.Sublist l.queue) : RowsFitted u m :=
  { ages := fun on r => by rw [ages, configured]; exact h.ages (fun off => on (state.mpr off)) r
    queued := fun r mem => configured ▸ h.queued r (queue.subset mem)
    once := queue.nodup h.once }

theorem rowsFitted_prompt {s : State} (h : RowsFitted s.ct s.llc) : RowsFitted s.prompt.ct s.prompt.llc :=
  rowsFitted_frame h (by simp) (by simp) (by simp) (prompt_queue s)

theorem rowsFitted_post {t : CellTable} {l : LuminaireLink} (h : RowsFitted t l) {r : Fin 8} (configured : t.configured r = true) :
    RowsFitted t (l.post r) := by
  rw [post_eq]
  refine ⟨h.ages, fun x mem => ?_, ?_⟩ <;> simp only [post_queue] at *
  · rcases List.mem_append.mp mem with old | new
    · exact h.queued x old
    · split at new
      · cases new
      · obtain rfl := List.mem_singleton.mp new
        exact configured
  · split
    · simpa using h.once
    · next fresh => exact List.nodup_append.mpr ⟨h.once, List.nodup_singleton _, by simpa using fun x mem => ne_of_mem_of_not_mem mem fresh⟩

theorem rowsFitted_postRows {s : State} (h : RowsFitted s.ct s.llc) (p : Fin 8 → Bool) : RowsFitted s.ct (s.postRows p).llc := by
  have rows : ∀ (l : List (Fin 8)) (m : LuminaireLink), (∀ r ∈ l, s.ct.configured r = true) → RowsFitted s.ct m →
      RowsFitted s.ct (l.foldl LuminaireLink.post m) := by
    intro l
    induction l with
    | nil => exact fun _ _ h => h
    | cons r l ih =>
      exact fun m configured h => ih _ (fun x mem => configured x (List.mem_cons_of_mem _ mem))
        (rowsFitted_post h (configured r List.mem_cons_self))
  refine rows _ _ (fun r mem => ?_) h
  exact (Bool.and_eq_true_iff.mp (List.mem_filter.mp mem).2).1

/-- An age is set only for a configured row. -/
theorem rowsFitted_touch {t : CellTable} {l : LuminaireLink} (h : RowsFitted t l) {ages : Table (Option Nat) 3}
    (touched : ∀ r : Fin 8, ages.get r = l.ages.get r ∨ (t.configured r = true ∧ (ages.get r).isSome = true))
    {m : LuminaireLink} (state : m.state = l.state) (set : m.ages = ages) (queue : m.queue = l.queue) : RowsFitted t m := by
  refine ⟨fun on r => ?_, queue ▸ h.queued, queue ▸ h.once⟩
  rw [set]
  rcases touched r with same | ⟨configured, some⟩
  · rw [same]
    exact h.ages (state ▸ on) r
  · simp [configured, some]

theorem rowsFitted_touchAll {s : State} (h : RowsFitted s.ct s.llc) : RowsFitted s.ct s.touchAll.llc := by
  refine rowsFitted_touch h (ages := .ofFn fun r : Fin 8 => if s.ct.configured r then some 0 else s.llc.ages.get r) (fun r => ?_)
    rfl rfl rfl
  rw [Table.get_ofFn _ _ rfl]
  split
  · next configured => exact .inr ⟨configured, rfl⟩
  · exact .inl rfl

theorem rowsFitted_applyInterval {s : State} (h : RowsFitted s.ct s.llc) : RowsFitted s.ct s.applyInterval.llc := by
  rw [applyInterval_llc]
  exact rowsFitted_frame h rfl Iff.rfl (fun _ => rfl) (.refl _)

theorem rowsFitted_frameDone {s : State} (h : RowsFitted s.ct s.llc) (f : Frame) : RowsFitted s.ct (s.frameDone f).llc := by
  cases f with
  | initGroup =>
    have posted : RowsFitted s.ct ((s.setLlc { s.llc with taken := .const none 8 }).postRows fun _ => true).llc :=
      rowsFitted_postRows (s := s.setLlc { s.llc with taken := .const none 8 }) (rowsFitted_frame h rfl Iff.rfl (fun _ => rfl) (.refl _)) _
    by_cases init : s.llc.state = .init
    · simp only [frameDone, initDone_of_init init, setFsc_llc, setFdu_llc, setLlc_llc]
      refine rowsFitted_frame posted rfl ?_ (fun _ => rfl) (.refl _)
      simp [postRows_llc, init]
    · simpa only [frameDone, initDone_of_ne init] using posted
  | burst r first bays =>
    have recorded : RowsFitted s.ct (s.burstRecorded r first bays).llc := by
      refine rowsFitted_touch h (ages := if s.ct.configured r then s.llc.ages.set r (some 0) else s.llc.ages) (fun x => ?_) rfl rfl rfl
      split
      · next configured =>
        rw [Table.get_set _ _ _ _ rfl]
        split
        · next same => exact .inr ⟨same ▸ configured, rfl⟩
        · exact .inl rfl
      · exact .inl rfl
    simp only [frameDone, burstDone_eq]
    split
    · next posted => exact rowsFitted_post recorded (Bool.and_eq_true_iff.mp posted).1
    · exact recorded
  | allTouch => exact rowsFitted_applyInterval (s := s.touchAll) (rowsFitted_touchAll h)
  | shed levels =>
    have touched {l : LuminaireLink} (fit : RowsFitted s.ct l) : RowsFitted s.ct (s.setLlc l).touchAll.applyInterval.llc :=
      rowsFitted_applyInterval (s := (s.setLlc l).touchAll) (rowsFitted_touchAll (s := s.setLlc l) fit)
    exact touched (rowsFitted_frame h rfl Iff.rfl (fun _ => rfl) (.refl _))

theorem rowsFitted_cutDone {s : State} (h : RowsFitted s.ct s.llc) (f : Frame) : RowsFitted s.ct (s.cutDone f).llc := by
  cases f with
  | burst r first bays =>
    simp only [cutDone]
    split
    · next configured => exact rowsFitted_post h configured
    · exact h
  | initGroup => exact rowsFitted_frame h rfl Iff.rfl (fun _ => rfl) (.refl _)
  | allTouch | shed levels => exact h

theorem rowsFitted_complete {s : State} (h : RowsFitted s.ct s.llc) : RowsFitted s.ct s.complete.llc := by
  cases flight : s.llc.flight with
  | none => rwa [complete_of_none flight]
  | some f =>
    have free {t : State} (ct : t.ct = s.ct) (link : RowsFitted s.ct t.llc) : RowsFitted s.ct t.freeLink.llc := by
      have := rowsFitted_prompt (s := t.setLlc { t.llc with flight := none })
        (rowsFitted_frame (show RowsFitted t.ct t.llc from ct.symm ▸ link) rfl Iff.rfl (fun _ => rfl) (.refl _))
      rwa [prompt_ct, setLlc_ct, ct] at this
    rw [complete_of_flight flight]
    split
    · exact free (by simp) (rowsFitted_cutDone h _)
    · exact free (by simp) (rowsFitted_frameDone h _)

theorem rowsFitted_cells {s : State} (h : RowsFitted s.ct s.llc) (w : CellWrite) : RowsFitted (w.apply s).ct (w.apply s).llc := by
  rw [CellWrite.apply_ct, CellWrite.apply_llc]
  refine ⟨fun on r => ?_, fun r mem => ?_, ?_⟩
  · rw [CellWrite.written_llc] at on
    rw [CellWrite.written_ages]
    split_ifs with after before
    · simp [after]
    · simpa using after
    · simp [h.ages on r, after, before]
  · rw [CellWrite.written_llc] at mem
    exact (List.mem_filter.mp mem).2
  · rw [CellWrite.written_llc]
    exact h.once.filter _

theorem rowsFitted_setLatch {s : State} (h : RowsFitted s.ct s.llc) : RowsFitted s.setLatch.ct s.setLatch.llc := by
  obtain ⟨state, -, ages, -, -, -, queue⟩ := setLatch_link s
  exact rowsFitted_frame h (by simp) (by rw [state]) (by simp [ages]) queue

/-! ### Effects -/

theorem fitted_reset {t : State} (ct : t.ct = State.reset.ct) (fdu : t.fdu = State.reset.fdu) (lau : t.lau = State.reset.lau)
    (llc : t.llc = State.reset.llc) : t.Fitted := by
  refine (fitted_iff t).mpr ⟨⟨fun c _ => ?_, fun c _ => ?_, fun c _ => ?_, ?_⟩, ⟨fun on => ?_, ?_, ?_⟩⟩
  · rw [fdu]; exact Table.get_const _ _
  · rw [llc]; exact Table.get_const _ _
  · rw [lau]; exact Table.get_const _ _
  · rw [ct]
    refine heldFitted_of_none (fun c => Table.get_const _ _) fun r => ?_
    rw [Table.get_ofFn_eq (t := State.reset.ct.rows) (f := fun r : Fin 8 => ⟨factoryDaylightFactor r, 500, .live⟩) rfl rfl r]
  · rw [llc] at on; exact absurd rfl on
  · rw [llc]; nofun
  · rw [llc]; exact List.nodup_nil

theorem fitted_load {s : State} (start : s.StartUp) (loading : s.sst.loading.isSome = true) : s.finishLoad.Fitted := by
  have starting : s.fsc.part = .starting := start.starting.mpr (by simp [start.off.mpr (.inl loading)])
  have queue : s.finishLoad.llc.queue = [] := start.noRows starting
  refine (fitted_iff _).mpr ⟨⟨fun c _ => (start.dark starting c).1, fun c _ => (start.dark starting c).2.1,
    fun c _ => (start.dark starting c).2.2, ?_⟩, ⟨fun _ r => ?_, by simp [queue], by simp [queue]⟩⟩
  · refine heldFitted_of_none (fun c => Table.get_const _ _) fun r => ?_
    have row : s.finishLoad.ct.rows.get r = ⟨(s.loaded.rows.get r).1, (s.loaded.rows.get r).2, .live⟩ := Table.get_map _ _ _
    rw [row]
  · rw [Table.get_ofFn_eq (t := s.finishLoad.llc.ages) (f := fun r : Fin 8 => if s.finishLoad.ct.configured r then some 0 else none)
      rfl rfl r]
    split <;> simp_all

theorem fitted_frame {s t : State} (h : s.Fitted) (cells : CellsFitted s → CellsFitted t)
    (rows : RowsFitted s.ct s.llc → RowsFitted t.ct t.llc) : t.Fitted :=
  (fitted_iff t).mpr ⟨cells ((fitted_iff s).mp h).1, rows ((fitted_iff s).mp h).2⟩

/-- A prompt, and the flags that may go with it, leave what is held for the cells. -/
theorem fitted_prompt {s : State} {l : LuminaireLink} (h : s.Fitted) (taken : l.taken = s.llc.taken)
    (state : l.state = s.llc.state) (ages : ∀ r : Fin 8, (l.ages.get r).isSome = (s.llc.ages.get r).isSome)
    (queue : l.queue.Sublist s.llc.queue) : (s.setLlc l).prompt.Fitted :=
  fitted_frame h (fun cells => cellsFitted_frame cells (taken := by simp [taken]))
    fun rows => rowsFitted_prompt (s := s.setLlc l) (rowsFitted_frame rows rfl (by rw [setLlc_llc, state]) ages queue)

theorem fitted_setLatch {s : State} (h : s.Fitted) : s.setLatch.Fitted := by
  refine fitted_frame h (fun cells => cellsFitted_frame cells (levels := fun c absent none => ?_) (taken := fun c _ none => ?_))
    rowsFitted_setLatch
  · rw [Ranges.setLatch_fdu]
    split
    · exact none
    · simp [absent, none]
  · rw [(setLatch_link s).2.1]; exact none

theorem fitted_same {s t : State} (h : s.Fitted) (ct : t.ct = s.ct) (fdu : t.fdu.levels = s.fdu.levels) (lau : t.lau.cells = s.lau.cells)
    (llc : t.llc = s.llc) : t.Fitted :=
  fitted_frame h (fun cells => cellsFitted_frame cells ct (by simp [fdu]) (by simp [llc]) (by simp [lau]))
    (fun rows => by rw [ct, llc]; exact rows)

theorem fitted_row {s : State} (h : s.Fitted) (r : Fin 8) (factor shed : Nat) : (s.writeRow r factor shed).Fitted := by
  have cells : (s.rowStored r factor shed).ct.cells = s.ct.cells := rowStored_cells s r factor shed
  have llc : (s.rowStored r factor shed).llc = s.llc := by simp [rowStored]
  have stored : (s.rowStored r factor shed).Fitted := by
    refine fitted_frame h (fun cell => ⟨fun c absent => ?_, fun c absent => ?_, fun c absent => ?_, fun c => ?_⟩)
      (fun rows => by rw [llc]; exact rowsFitted_frame rows (configured_of_cells cells) Iff.rfl (fun _ => rfl) (.refl _))
    · rw [present_of_cells cells] at absent; simpa [rowStored] using cell.levels c absent
    · rw [present_of_cells cells] at absent; simpa [rowStored] using cell.taken c absent
    · rw [present_of_cells cells] at absent; simpa [rowStored] using cell.records c absent
    · have frozen := heldFitted_freezeRow cell.held r c
      rw [present_freezeRow] at frozen
      rw [rowStored_held, present_of_cells cells, frozen, CellTable.frozenCell, CellTable.frozenCell, rowFrozen_freezeRow,
        CellTable.rowFrozen, CellTable.rowFrozen, rowStored_rows]
      split <;> rfl
  rw [writeRow_eq]
  split
  · exact fitted_prompt (s := (s.rowStored r factor shed).clampFades _)
      (fitted_frame stored (fun cell => cellsFitted_clampFades cell _) fun rows => rows) rfl rfl (fun _ => rfl) (.refl _)
  · exact stored

theorem fitted_effect {s t : State} (e : Effect s t) (start : s.StartUp) (h : s.Fitted) : t.Fitted := by
  cases e with
  | fullReset | holdReset => exact fitted_reset rfl rfl rfl rfl
  | load free loading => exact fitted_load start loading
  | lineLow =>
    unfold lineLow
    split
    · exact fitted_same h rfl rfl rfl rfl
    · exact fitted_setLatch (s := s.observe false) (fitted_same h rfl rfl rfl rfl)
  | latch => exact fitted_setLatch h
  | thaw p => exact fitted_frame h (fun cells => ⟨cells.levels, cells.taken, cells.records, heldFitted_thaw cells.held p⟩) fun rows =>
      rowsFitted_frame rows rfl Iff.rfl (fun _ => rfl) (.refl _)
  | fade =>
    refine fitted_frame h cellsFitted_fade fun rows => ?_
    rw [fade_ct]
    unfold fade
    split
    · exact rows
    · have := rowsFitted_prompt (s := s.fadeCells.postRows s.fadeCells.rowDiffers) (rowsFitted_postRows (s := s.fadeCells) rows _)
      rwa [prompt_ct] at this
  | complete => exact fitted_frame h cellsFitted_complete fun rows => by rw [complete_ct]; exact rowsFitted_complete rows
  | due r =>
    unfold rowBecomesDue
    split
    · next a _ age =>
      refine fitted_prompt h rfl rfl (fun x => ?_) (.refl _)
      rw [Table.get_set _ _ _ _ rfl]
      split
      · next same => rw [← same, age]; rfl
      · rfl
    · exact h
  | reInit =>
    unfold reInitExpiry
    split
    · exact h
    · exact fitted_prompt h rfl rfl (fun _ => rfl) (.refl _)
  | shortfall mode cells =>
    refine fitted_frame h (fun fit => cellsFitted_frame fit (records := fun c _ cleared => ?_)) fun rows => rows
    rcases cells c with same | cut
    · exact same.trans cleared
    · rw [cleared] at cut; exact cut
  | cells w => exact fitted_frame h (fun cells => cellsFitted_cells cells w) fun rows => rowsFitted_cells rows w
  | row r => exact fitted_row h r _ _
  | mode m =>
    refine fitted_frame h (fun fit => cellsFitted_frame fit (records := fun c _ cleared => ?_)) fun rows => by simpa using rows
    unfold setMode
    split
    · exact cleared
    · rw [setLau_lau, Table.get_map, cleared]; rfl
  | interval v =>
    unfold setInterval
    split
    · exact fitted_frame h (fun fit => cellsFitted_frame fit) fun rows => rowsFitted_frame rows rfl Iff.rfl (fun _ => rfl) (.refl _)
    · exact fitted_prompt h rfl rfl (fun _ => rfl) (.refl _)
  | _ => exact fitted_same h (by simp) (by simp) (by simp) (by simp)

theorem fitted_advance {s : State} (h : s.Fitted) : s.advance.Fitted := by
  have frozen (c : Fin 256) : s.advance.ct.frozenCell c = s.ct.frozenCell c := by
    have row : s.advance.ct.rows.get (rowOf c) = { s.ct.rows.get (rowOf c) with freeze := (s.ct.rows.get (rowOf c)).freeze.tick } :=
      Table.get_map _ _ _
    rw [CellTable.frozenCell, CellTable.rowFrozen, row, CellTable.frozenCell, CellTable.rowFrozen]
    cases (s.ct.rows.get (rowOf c)).freeze <;> rfl
  refine fitted_frame h (fun cells => ⟨cells.levels, cells.taken, cells.records, fun c => by rw [frozen]; exact cells.held c⟩) fun rows =>
    rowsFitted_frame rows rfl Iff.rfl (fun r => ?_) (.refl _)
  show ((if s.llc.state = .run then s.llc.ages.map (Option.map (· + 1)) else s.llc.ages).get r).isSome = _
  split <;> simp

/-- Settles O9. -/
theorem stepKeepsFitted : Obligations.StepKeepsFitted := fun _ _ start h step =>
  step_keeps_started (fun _ _ h => fitted_same h rfl rfl rfl rfl) (fun _ _ => fitted_effect) (fun _ _ => fitted_advance) start h step

end Sys2Proof.Proofs.Fitted
end

section
/-! PROOF. Every effect keeps the fade levels under a set latch within their rows' shed levels, and a tick that completes SHEDn's
millisecond observes its level (O12). -/

namespace Sys2Proof.Proofs.Shed

open Sys2Proof.Machine Sys2Proof.Machine.State Sys2Proof.Proofs.Effects Sys2Proof.Proofs.StartUp

/-! ### The parts of the statement -/

/-- The count, the line and the latch, without the observation of a level that has stood (R150, R151). -/
structure LineOk (f : Floor) : Prop where
  steady : f.steady ≤ 125
  line : f.lineAsserted = true → f.latch = true

/-- A level that has stood for 1 ms is the observed state (R150). -/
def Observed (f : Floor) : Prop := f.steady = 125 → f.lineAsserted = !f.shedn

/-- Every present fade level is within its row's shed level while the latch is set (R115). -/
def LevelsShed (s : State) : Prop :=
  s.fsc.latch = true → ∀ c : Fin 256, s.ct.present c = true → within (s.ct.shedLevelOf c) (s.fdu.levels.get c)

theorem shed_iff (s : State) : s.Shed ↔ (LineOk s.fsc ∧ LevelsShed s) ∧ Observed s.fsc :=
  ⟨fun h => ⟨⟨⟨h.steady, h.line⟩, h.levels⟩, h.observed⟩, fun ⟨⟨line, levels⟩, observed⟩ => ⟨line.steady, observed, line.line, levels⟩⟩

/-! ### The FSC -/

theorem lineLow_fsc (s : State) : s.lineLow.fsc =
    if s.fsc.lineAsserted = true then { s.fsc with shedn := false, steady := 125, lineAsserted := true }
    else { s.fsc with shedn := false, steady := 125, lineAsserted := true, latch := true } := by
  unfold lineLow
  split
  · rfl
  · rw [setLatch_fsc]; rfl

/-- A completion may bring the part to RUN, and leaves the rest of the FSC. -/
theorem complete_fsc (s : State) : ∃ part, s.complete.fsc = { s.fsc with part } := by
  by_cases init : s.llc.state = .init
  · cases flight : s.llc.flight with
    | none => exact ⟨s.fsc.part, by rw [complete_of_none flight]⟩
    | some f =>
      rw [complete_of_flight flight]
      split
      · exact ⟨s.fsc.part, by simp⟩
      · cases f.frame with
        | initGroup => exact ⟨.run, by simp [frameDone, initDone_of_init init]⟩
        | burst r first bays => exact ⟨s.fsc.part, by simp [frameDone]⟩
        | allTouch => exact ⟨s.fsc.part, by simp [frameDone]⟩
        | shed levels => exact ⟨s.fsc.part, by simp [frameDone]⟩
  · exact ⟨s.fsc.part, (complete_link init).2.2.2⟩

theorem enterStandby_fsc (s : State) : ∃ part, s.enterStandby.fsc = { s.fsc with part } := by
  unfold enterStandby
  split
  · exact ⟨.standby, rfl⟩
  all_goals exact ⟨s.fsc.part, rfl⟩

theorem leaveStandby_fsc (s : State) : ∃ part, s.leaveStandby.fsc = { s.fsc with part } := by
  unfold leaveStandby
  split
  · exact ⟨.run, rfl⟩
  all_goals exact ⟨s.fsc.part, rfl⟩

theorem line_effect {s t : State} (e : Effect s t) (h : LineOk s.fsc) : LineOk t.fsc ∧ (Observed s.fsc → Observed t.fsc) := by
  cases e with
  | fullReset | holdReset => exact ⟨⟨Nat.zero_le _, nofun⟩, fun _ => nofun⟩
  | level high =>
    unfold shednLevel
    split
    · exact ⟨h, id⟩
    · exact ⟨⟨Nat.zero_le _, h.line⟩, fun _ => nofun⟩
  | lineLow =>
    rw [lineLow_fsc]
    split
    · next asserted => exact ⟨⟨le_refl _, fun _ => h.line asserted⟩, fun _ _ => rfl⟩
    · exact ⟨⟨le_refl _, fun _ => rfl⟩, fun _ _ => rfl⟩
  | lineHigh => exact ⟨⟨le_refl _, nofun⟩, fun _ _ => rfl⟩
  | complete => obtain ⟨part, same⟩ := complete_fsc s; rw [same]; exact ⟨⟨h.steady, h.line⟩, id⟩
  | night => obtain ⟨part, same⟩ := enterStandby_fsc s; rw [same]; exact ⟨⟨h.steady, h.line⟩, id⟩
  | day => obtain ⟨part, same⟩ := leaveStandby_fsc s; rw [same]; exact ⟨⟨h.steady, h.line⟩, id⟩
  | latch => rw [setLatch_fsc]; exact ⟨⟨h.steady, fun _ => rfl⟩, id⟩
  | unlatch released => exact ⟨⟨h.steady, fun asserted => absurd (released.symm.trans asserted) nofun⟩, id⟩
  | restart => exact ⟨⟨h.steady, h.line⟩, id⟩
  | load => exact ⟨h, id⟩
  | cells w => rw [CellWrite.apply_fsc]; exact ⟨h, id⟩
  | _ => simpa using h

/-! ### The levels -/

theorem within_min {limit : Nat} (v : Option Nat) : within limit (v.map fun x => min x limit) := by
  cases v with
  | none => exact Nat.zero_le _
  | some x => exact min_le_right _ _

theorem levelsShed_of_dark {s : State} (h : ∀ c : Fin 256, s.fdu.levels.get c = none) : LevelsShed s := fun _ c _ => by
  rw [h c]; exact Nat.zero_le _

/-- Where grid, latch and fade levels are as they were. -/
theorem levelsShed_congr {s t : State} (h : LevelsShed s) (ct : t.ct = s.ct) (levels : t.fdu.levels = s.fdu.levels)
    (latch : t.fsc.latch = s.fsc.latch) : LevelsShed t := by
  rw [LevelsShed, ct, levels, latch]; exact h

/-- The clamp of all rows is all the latch asks (R115). -/
theorem levelsShed_clamped {s t : State} (ct : t.ct = s.ct) (fdu : t.fdu = (s.clampFades fun _ => true).fdu) : LevelsShed t := by
  intro _ c present
  rw [ct] at present ⊢
  rw [fdu, clampFades_levels]
  simp only [present, Bool.and_self, if_true]
  exact within_min _

theorem levelsShed_setLatch {s : State} (h : LevelsShed s) : LevelsShed s.setLatch := by
  cases latch : s.fsc.latch with
  | true => rwa [setLatch_of_set latch]
  | false => exact levelsShed_clamped (s := s) (by simp) (by rw [Ranges.setLatch_fdu, latch]; rfl)

/-- Under a set latch every goal is within its row's shed level (R101). -/
theorem goalOf_le_shed {s : State} (latch : s.fsc.latch = true) (c : Fin 256) : s.goalOf c ≤ s.ct.shedLevelOf c := by
  show (if decide (s.fsc.part = .standby) then 0 else (s.lauInput c).limited _) ≤ (s.lauInput c).shedLevel
  split
  · exact Nat.zero_le _
  · unfold LauInput.limited
    rw [show (s.lauInput c).latch = true from latch]
    exact min_le_right _ _

theorem fadedLevel_le_shed {s : State} (h : LevelsShed s) (latch : s.fsc.latch = true) {c : Fin 256} (present : s.ct.present c = true) :
    s.fadedLevel c ≤ s.ct.shedLevelOf c := by
  have goal := goalOf_le_shed latch c
  have level := h latch c present
  unfold fadedLevel
  split
  · exact goal
  · next v found =>
    rw [found] at level
    exact (moveLevel_between _ _ _).2.trans (max_le level goal)

theorem levelsShed_fade {s : State} (h : LevelsShed s) : LevelsShed s.fade := by
  intro latch c present
  rw [fade_fsc] at latch
  rw [fade_ct] at present ⊢
  unfold fade
  split
  · exact h latch c present
  · simp only [prompt_fdu, postRows_fdu, fadeCells_levels, present, if_true]
    exact fadedLevel_le_shed h latch present

theorem shedLevelOf_congr {t u : CellTable} (h : ∀ r : Fin 8, (t.rows.get r).shedLevel = (u.rows.get r).shedLevel) :
    t.shedLevelOf = u.shedLevelOf := by
  funext c; exact h (rowOf c)

/-- A cell that a write makes present holds no level yet, and a write changes no shed level. -/
theorem levelsShed_cells {s : State} (fitted : s.Fitted) (h : LevelsShed s) (w : CellWrite) : LevelsShed (w.apply s) := by
  intro latch c _
  rw [CellWrite.apply_fsc] at latch
  have shed : (w.apply s).ct.shedLevelOf = s.ct.shedLevelOf := shedLevelOf_congr fun r => by
    rw [CellWrite.apply_ct, CellWrite.written_rows, freezeRow_rows]
    split
    · next same => rw [same]
    · rfl
  rw [shed, CellWrite.apply_fdu, CellWrite.written_levels]
  split
  · exact Nat.zero_le _
  · cases before : s.ct.present c with
    | true => exact h latch c before
    | false => rw [fitted.levels c before]; exact Nat.zero_le _

theorem levelsShed_row {s : State} (h : LevelsShed s) (r : Fin 8) (factor shed : Nat) : LevelsShed (s.writeRow r factor shed) := by
  have level (c : Fin 256) : (s.rowStored r factor shed).ct.shedLevelOf c = if r = rowOf c then shed else s.ct.shedLevelOf c := by
    rw [CellTable.shedLevelOf, rowStored_rows]
    split <;> rfl
  have present : (s.rowStored r factor shed).ct.present = s.ct.present := present_of_cells (rowStored_cells s r factor shed)
  have fdu : (s.rowStored r factor shed).fdu = s.fdu := by simp [rowStored]
  intro latch c
  rw [writeRow_fsc] at latch
  rw [writeRow_ct, present, level]
  intro shown
  have old := h latch c shown
  by_cases changed : s.fsc.latch = true ∧ shed ≠ (s.ct.rows.get r).shedLevel
  · rw [writeRow_eq, if_pos changed, raiseShed_fdu, clampFades_levels, level, present, fdu]
    by_cases row : r = rowOf c
    · simp only [shown, row, decide_true, Bool.and_self, if_true]
      exact within_min _
    · simpa [row, Ne.symm row, eq_comm] using old
  · rw [writeRow_eq, if_neg changed, fdu]
    split
    · next row =>
      have same : shed = (s.ct.rows.get r).shedLevel := by simpa [latch] using changed
      rw [same, row]
      exact old
    · exact old

theorem levelsShed_effect {s t : State} (e : Effect s t) (start : s.StartUp) (fitted : s.Fitted) (h : LevelsShed s) : LevelsShed t := by
  cases e with
  | fullReset | holdReset => exact levelsShed_of_dark fun c => Table.get_const _ _
  | load free loading =>
    exact levelsShed_of_dark fun c => (start.dark (start.starting.mpr (by simp [start.off.mpr (.inl loading)])) c).1
  | level high =>
    unfold shednLevel
    split
    · exact h
    · exact levelsShed_congr h rfl rfl rfl
  | lineLow =>
    unfold lineLow
    split
    · exact levelsShed_congr h rfl rfl rfl
    · exact levelsShed_setLatch (s := s.observe false) (levelsShed_congr h rfl rfl rfl)
  | lineHigh => exact levelsShed_congr h rfl rfl rfl
  | latch => exact levelsShed_setLatch h
  | unlatch => exact fun latch => absurd latch nofun
  | restart => exact levelsShed_congr h rfl rfl rfl
  | thaw p =>
    intro latch c present
    have shed : (s.unfreezeRows p).ct.shedLevelOf = s.ct.shedLevelOf := shedLevelOf_congr fun r => by
      rw [unfreezeRows_rows]; split <;> rfl
    rw [shed]
    exact h latch c present
  | fade => exact levelsShed_fade h
  | complete =>
    obtain ⟨part, fsc⟩ := complete_fsc s
    refine levelsShed_congr h (by simp) ?_ (by rw [fsc])
    rcases Ranges.complete_fdu s with same | started
    · rw [same]
    · rw [started]
  | cells w => exact levelsShed_cells fitted h w
  | row r => exact levelsShed_row h r _ _
  | night => obtain ⟨part, fsc⟩ := enterStandby_fsc s; exact levelsShed_congr h (by simp) (by simp) (by rw [fsc])
  | day => obtain ⟨part, fsc⟩ := leaveStandby_fsc s; exact levelsShed_congr h (by simp) (by simp) (by rw [fsc])
  | _ => exact levelsShed_congr h (by simp) (by simp) (by simp)

/-! ### Effects and ticks -/

/-- The part and all that SHEDn's shed asks for, but that a level which has stood for 1 ms is observed. -/
structure Unobserved (s : State) : Prop where
  start : s.StartUp
  fitted : s.Fitted
  line : LineOk s.fsc
  levels : LevelsShed s

theorem unobserved_effect {s t : State} (e : Effect s t) (h : Unobserved s) : Unobserved t :=
  ⟨startUp_effect s t e h.start, Fitted.fitted_effect e h.start h.fitted, (line_effect e h.line).1,
    levelsShed_effect e h.start h.fitted h.levels⟩

/-- The whole of it: with the level observed too, every effect keeps it. -/
def Settled (s : State) : Prop := Unobserved s ∧ Observed s.fsc

theorem settled_effect (s t : State) (e : Effect s t) (h : Settled s) : Settled t :=
  ⟨unobserved_effect e h.1, (line_effect e h.1.line).2 h.2⟩

theorem settled_of_shed {s : State} (start : s.StartUp) (fitted : s.Fitted) (h : s.Shed) : Settled s := by
  obtain ⟨⟨line, levels⟩, observed⟩ := (shed_iff s).mp h
  exact ⟨⟨start, fitted, line, levels⟩, observed⟩

theorem shed_of_settled {s : State} (h : Settled s) : s.Shed := (shed_iff s).mpr ⟨⟨h.1.line, h.1.levels⟩, h.2⟩

theorem settled_setPending {s : State} (h : Settled s) (l : List Instr) : Settled (s.setPending l) :=
  ⟨⟨startUp_frame h.1.start, Fitted.fitted_same h.1.fitted rfl rfl rfl rfl, h.1.line, h.1.levels⟩, h.2⟩

theorem unobserved_advance {s : State} (h : Unobserved s) : Unobserved s.advance := by
  have rows : s.advance.ct.shedLevelOf = s.ct.shedLevelOf := shedLevelOf_congr fun r => by
    have row : s.advance.ct.rows.get r = { s.ct.rows.get r with freeze := (s.ct.rows.get r).freeze.tick } := Table.get_map _ _ _
    rw [row]
  refine ⟨startUp_advance s h.start, Fitted.fitted_advance h.fitted, ⟨min_le_right _ _, h.line.line⟩, fun latch c present => ?_⟩
  rw [rows]
  exact h.levels latch c present

/-- The rows that a tick takes before SHEDn's: the ends of the load and of the save. -/
def beforeLine (s : State) : List Instr :=
  (if reached s.sst.loading Timing.load then [.loadComplete] else []) ++
    if reached (s.sst.saving.map Saving.elapsed) Timing.save then [.saveComplete] else []

theorem dueNow_split (s : State) : ∃ after, s.dueNow = beforeLine s ++ s.fsc.qualified.toList ++ after := by
  unfold dueNow beforeLine
  simp only [List.append_assoc]
  exact ⟨_, rfl⟩

theorem happen_loadComplete_fsc (s : State) : (s.happen .loadComplete).fsc = s.fsc := by
  have run : exec .loadComplete s = .next (if s.fsc.resetHeld then s else s.loadDone) := by
    show unlessHeld loadDone s = _
    unfold unlessHeld
    split <;> rfl
  rw [happen_eq run]
  split
  · rfl
  · unfold loadDone; split <;> rfl

theorem happen_saveComplete_fsc (s : State) : (s.happen .saveComplete).fsc = s.fsc := by
  have run : exec .saveComplete s = .next (if s.fsc.resetHeld then s else s.finishSave) := by
    show unlessHeld finishSave s = _
    unfold unlessHeld
    split <;> rfl
  rw [happen_eq run]
  split <;> simp

theorem foldl_beforeLine_fsc (s : State) (l : List Instr) (h : ∀ c ∈ l, c = .loadComplete ∨ c = .saveComplete) :
    (l.foldl happen s).fsc = s.fsc := by
  induction l generalizing s with
  | nil => rfl
  | cons c l ih =>
    rw [List.foldl_cons, ih _ fun d mem => h d (List.mem_cons_of_mem _ mem)]
    rcases h c List.mem_cons_self with rfl | rfl
    · exact happen_loadComplete_fsc s
    · exact happen_saveComplete_fsc s

/-- The row that SHEDn brings makes its level the observed state. -/
theorem observed_of_qualified {s : State} (free : s.fsc.resetHeld = false) {c : Instr} (h : s.fsc.qualified = some c) :
    Observed (s.happen c).fsc := by
  rcases (qualified_iff s.fsc c).mp h with ⟨rfl, -⟩ | ⟨rfl, -⟩
  · have run : exec .shednAsserted s = .next s.lineLow := by
      show unlessHeld lineLow s = _
      simp [unlessHeld, free]
    rw [happen_eq run, lineLow_fsc]
    split <;> exact fun _ => rfl
  · have run : exec .shednReleased s = .next s.lineHigh := by
      show unlessHeld lineHigh s = _
      simp [unlessHeld, free]
    rw [happen_eq run]
    exact fun _ => rfl

/-- No row of SHEDn waits where its level has not stood, or is observed already. -/
theorem observed_of_unqualified {f : Floor} (h : f.qualified = none) : Observed f := by
  intro stood
  by_contra other
  have same : f.lineAsserted = f.shedn := by
    cases line : f.lineAsserted <;> cases level : f.shedn <;> simp_all
  unfold Floor.qualified at h
  rw [if_pos ⟨stood.ge, same⟩] at h
  cases h

/-- What every effect keeps, any rows that happen keep. -/
theorem happens_keep {P : State → Prop} (effect : ∀ s t, Effect s t → P s → P t) (l : List Instr) {s : State} (h : P s) :
    P (l.foldl happen s) :=
  List.foldlRecOn l _ h fun u hu c _ => (happen_effects c u).keeps effect hu

/-- A tick: after the ends of load and save SHEDn's row happens, if it is due, and then nothing is unobserved. -/
theorem settled_tick {s : State} (free : s.fsc.resetHeld = false) (h : Unobserved s) : Settled (s.dueNow.foldl happen s) := by
  obtain ⟨after, split⟩ := dueNow_split s
  rw [split, List.foldl_append, List.foldl_append]
  refine happens_keep settled_effect after ?_
  have before : Unobserved ((beforeLine s).foldl happen s) := happens_keep (fun _ _ => unobserved_effect) _ h
  have fsc : ((beforeLine s).foldl happen s).fsc = s.fsc := foldl_beforeLine_fsc s _ fun c mem => by
    simp only [beforeLine, List.mem_append, mem_alone] at mem
    exact mem.imp And.left And.left
  cases qualified : s.fsc.qualified with
  | none => exact ⟨before, by rw [Option.toList_none, List.foldl_nil, fsc]; exact observed_of_unqualified qualified⟩
  | some c =>
    exact ⟨(happen_effects c _).keeps (fun _ _ => unobserved_effect) before,
      observed_of_qualified (by rw [fsc]; exact free) (by rw [fsc]; exact qualified)⟩

/-- Settles O12. -/
theorem stepKeepsShed : Obligations.StepKeepsShed := by
  intro s t start fitted shed step
  have settled := settled_of_shed start fitted shed
  rcases step_cases step with ⟨rest, seq⟩ | rfl
  · exact shed_of_settled (seq.keeps settled_effect (settled_setPending settled rest))
  cases held : s.fsc.resetHeld with
  | true => rwa [tick_held held]
  | false =>
    rw [tick_free held]
    exact shed_of_settled (settled_tick (s := s.advance) held (unobserved_advance settled.1))

end Sys2Proof.Proofs.Shed
end

section
/-! PROOF. Every prompt leaves the link in RUN busy or with nothing pending, and a tick takes every row that it makes due (O13). -/

namespace Sys2Proof.Proofs.Rested

open Sys2Proof.Machine Sys2Proof.Machine.State Sys2Proof.Proofs.Effects Sys2Proof.Proofs.Ranges

/-! ### Due rows -/

/-- One row's share in the choice of the due row of greatest age (R133, line 4). -/
def pickDue (s : State) (best : Option (Fin 8 × Nat)) (r : Fin 8) : Option (Fin 8 × Nat) :=
  match s.dueAge r, best with
  | none, _ => best
  | some a, none => some (r, a)
  | some a, some (_, x) => if x < a then some (r, a) else best

theorem dueRow_eq (s : State) : s.dueRow = (allRows.foldl (pickDue s) none).map Prod.fst := rfl

theorem pickDue_eq_none {s : State} {best : Option (Fin 8 × Nat)} {r : Fin 8} :
    pickDue s best r = none ↔ best = none ∧ s.dueAge r = none := by
  unfold pickDue
  cases due : s.dueAge r with
  | none => simp
  | some a =>
    cases best with
    | none => simp
    | some b => simp only; split <;> simp

theorem foldl_pickDue_eq_none {s : State} (l : List (Fin 8)) (best : Option (Fin 8 × Nat)) :
    l.foldl (pickDue s) best = none ↔ best = none ∧ ∀ r ∈ l, s.dueAge r = none := by
  induction l generalizing best with
  | nil => simp
  | cons r l ih => rw [List.foldl_cons, ih, pickDue_eq_none, List.forall_mem_cons, and_assoc]

theorem dueRow_eq_none {s : State} : s.dueRow = none ↔ ∀ r : Fin 8, s.dueAge r = none := by
  rw [dueRow_eq, Option.map_eq_none_iff, foldl_pickDue_eq_none]
  simp [allRows]

theorem dueAge_eq_some {s : State} {r : Fin 8} {a : Nat} :
    s.dueAge r = some a ↔ s.ct.configured r = true ∧ s.llc.ages.get r = some a ∧ s.llc.interval * 125 ≤ 2 * a := by
  unfold dueAge
  split
  · next configured =>
    rw [Option.filter_eq_some_iff, LuminaireLink.isDue, decide_eq_true_eq, Timing.ticksOfMs]
    simp only [configured, true_and]
  · next absent => simp [absent]

/-! ### Rest -/

/-- The link in RUN is idle only with nothing pending, and no row due but those that `D` says are about to be taken. -/
def RestedBut (D : Fin 8 → Prop) (s : State) : Prop :=
  s.llc.state = .run → s.llc.flight = none →
    s.llc.pendingShed = false ∧ s.llc.pendingInit = false ∧ s.llc.pendingInterval = none ∧ ∀ (r : Fin 8) (a : Nat), s.dueAge r = some a → D r

theorem rested_iff (s : State) : s.Rested ↔ RestedBut (fun _ => False) s := by
  have due : s.dueRow = none ↔ ∀ (r : Fin 8) (a : Nat), s.dueAge r = some a → False := by
    rw [dueRow_eq_none]
    exact forall_congr' fun r => Option.eq_none_iff_forall_ne_some
  unfold State.Rested RestedBut
  rw [due]

theorem restedBut_mono {D E : Fin 8 → Prop} {s : State} (h : RestedBut D s) (sub : ∀ r, D r → E r) : RestedBut E s :=
  fun run idle =>
    have ⟨shed, init, interval, due⟩ := h run idle
    ⟨shed, init, interval, fun r a at' => sub r (due r a at')⟩

theorem restedBut_of_rested {D : Fin 8 → Prop} {s : State} (h : s.Rested) : RestedBut D s := restedBut_mono ((rested_iff s).mp h) nofun

theorem restedBut_of_ne {D : Fin 8 → Prop} {s : State} (h : s.llc.state ≠ .run) : RestedBut D s := fun run => absurd run h

theorem restedBut_of_busy {D : Fin 8 → Prop} {s : State} (h : s.llc.flight.isSome = true) : RestedBut D s :=
  fun _ idle => by rw [idle] at h; cases h

/-- A selection starts a frame, or finds nothing pending and no row due (R133). -/
theorem rested_select (s : State) : s.select.Rested := by
  have busy {t : State} (h : t.llc.flight.isSome = true) : t.Rested := (rested_iff t).mpr (restedBut_of_busy h)
  rw [select_eq]
  split
  · exact busy rfl
  split
  · exact busy rfl
  next noInit =>
  split
  · exact busy rfl
  next noInterval =>
  split
  · split
    · exact busy rfl
    · exact busy rfl
  · next noDue =>
    split
    · exact busy rfl
    · exact fun _ _ => ⟨rfl, by simpa [unshed] using noInit, by simpa [unshed] using noInterval, noDue⟩

/-- Every prompt leaves the link at rest (R134). -/
theorem rested_prompt (s : State) : s.prompt.Rested := by
  by_cases idle : s.llc.state = .run ∧ s.llc.flight = none
  · rw [prompt_idle idle.1 idle.2]
    exact rested_select s
  · rw [prompt_busy idle]
    exact fun run none => absurd ⟨run, none⟩ idle

/-! ### Effects -/

/-- A state whose link keeps its flags and flight, and in which no row has come due. -/
theorem restedBut_frame {D : Fin 8 → Prop} {s t : State} (h : RestedBut D s) (state : t.llc.state = .run → s.llc.state = .run)
    (flight : t.llc.flight = none → s.llc.flight = none) (shed : t.llc.pendingShed = s.llc.pendingShed)
    (init : t.llc.pendingInit = s.llc.pendingInit) (interval : s.llc.pendingInterval = none → t.llc.pendingInterval = none)
    (due : ∀ (r : Fin 8) (a : Nat), t.dueAge r = some a → ∃ b, s.dueAge r = some b) : RestedBut D t := fun run idle =>
  have ⟨noShed, noInit, noInterval, noDue⟩ := h (state run) (flight idle)
  ⟨shed.trans noShed, init.trans noInit, interval noInterval, fun r a at' => have ⟨b, at''⟩ := due r a at'; noDue r b at''⟩

theorem restedBut_same {D : Fin 8 → Prop} {s t : State} (h : RestedBut D s) (llc : t.llc = s.llc)
    (configured : t.ct.configured = s.ct.configured) : RestedBut D t := by
  refine restedBut_frame h (by rw [llc]; exact id) (by rw [llc]; exact id) (by rw [llc]) (by rw [llc]) (by rw [llc]; exact id)
    fun r a due => ⟨a, ?_⟩
  rwa [dueAge, llc, configured] at due

theorem restedBut_prompt {D : Fin 8 → Prop} (s : State) : RestedBut D s.prompt := restedBut_of_rested (rested_prompt s)

theorem restedBut_setLatch {D : Fin 8 → Prop} {s : State} (h : RestedBut D s) : RestedBut D s.setLatch := by
  cases latch : s.fsc.latch with
  | true => rwa [setLatch_of_set latch]
  | false => rw [setLatch_of_clear latch]; exact restedBut_prompt _

/-- A row that a write configures starts at age 0, which no interval makes due. -/
theorem restedBut_cells {D : Fin 8 → Prop} {s : State} (h : RestedBut D s) (interval : 200 ≤ s.llc.interval) (w : CellWrite) :
    RestedBut D (w.apply s) := by
  have llc : (w.apply s).llc = _ := (CellWrite.apply_llc w s).trans (CellWrite.written_llc w s)
  refine restedBut_frame h (by rw [llc]; exact id) (by rw [llc]; simp) (by rw [llc]) (by rw [llc]) (by rw [llc]; exact id)
    fun r a due => ⟨a, ?_⟩
  obtain ⟨configured, age, reached⟩ := dueAge_eq_some.mp due
  rw [CellWrite.apply_ct] at configured
  rw [CellWrite.apply_llc, CellWrite.written_ages] at age
  have same : (w.apply s).llc.interval = s.llc.interval := by rw [llc]
  rw [same] at reached
  rw [if_neg (by simp [configured])] at age
  split at age
  · cases age; omega
  · next kept => exact dueAge_eq_some.mpr ⟨by simpa using kept, age, reached⟩

theorem restedBut_complete {D : Fin 8 → Prop} {s : State} (h : RestedBut D s) : RestedBut D s.complete := by
  cases flight : s.llc.flight with
  | none => rwa [complete_of_none flight]
  | some f => rw [complete_of_flight flight]; exact restedBut_prompt _

theorem restedBut_effect {D : Fin 8 → Prop} {s t : State} (e : Effect s t) (interval : 200 ≤ s.llc.interval) (h : RestedBut D s) :
    RestedBut D t := by
  cases e with
  | fullReset | holdReset => exact restedBut_of_ne nofun
  | load => exact restedBut_of_ne nofun
  | level high => exact restedBut_same h (by unfold shednLevel; split <;> rfl) (by unfold shednLevel; split <;> rfl)
  | lineLow =>
    unfold lineLow
    split
    · exact restedBut_same h rfl rfl
    · exact restedBut_setLatch (s := s.observe false) (restedBut_same h rfl rfl)
  | latch => exact restedBut_setLatch h
  | thaw p => exact restedBut_same h rfl (configured_of_cells rfl)
  | fade =>
    unfold fade
    split
    · exact h
    · exact restedBut_prompt _
  | complete => exact restedBut_complete h
  | due r =>
    unfold rowBecomesDue
    split
    · exact restedBut_prompt _
    · exact h
  | reInit =>
    unfold reInitExpiry
    split
    · exact h
    · exact restedBut_prompt _
  | cells w => exact restedBut_cells h interval w
  | @row r factor shed =>
    rw [writeRow_eq]
    split
    · exact restedBut_prompt _
    · exact restedBut_same h (by simp [rowStored]) (configured_of_cells (rowStored_cells s r factor shed))
  | interval v =>
    unfold setInterval
    split
    · next longer =>
      refine restedBut_frame h id id rfl rfl (fun _ => rfl) fun r a due => ⟨a, ?_⟩
      obtain ⟨configured, age, reached⟩ := dueAge_eq_some.mp due
      exact dueAge_eq_some.mpr ⟨configured, age, (Nat.mul_le_mul_right 125 longer).trans reached⟩
    · exact restedBut_prompt _
  | _ => exact restedBut_same h (by simp) (by simp)

/-! ### Ticks -/

/-- While RSTn holds the part the link is OFF (R144). -/
def HeldOff (s : State) : Prop := s.fsc.resetHeld = true → s.llc.state = .off

theorem heldOff_congr {s t : State} (h : HeldOff s) (held : t.fsc.resetHeld = s.fsc.resetHeld) (state : t.llc.state = s.llc.state) :
    HeldOff t := by rw [HeldOff, held, state]; exact h

theorem complete_state_of_off {s : State} (off : s.llc.state = .off) : s.complete.llc.state = .off :=
  (complete_link (by simp [off])).1.trans off

theorem heldOff_effect {s t : State} (e : Effect s t) (h : HeldOff s) : HeldOff t := by
  cases e with
  | fullReset => exact nofun
  | holdReset => exact fun _ => rfl
  | load free => exact fun held => absurd (free.symm.trans held) nofun
  | level high => exact heldOff_congr h (by unfold shednLevel; split <;> rfl) (by unfold shednLevel; split <;> rfl)
  | lineLow =>
    refine heldOff_congr h (by rw [Shed.lineLow_fsc]; split <;> rfl) ?_
    unfold lineLow
    split
    · rfl
    · exact (setLatch_link _).1
  | lineHigh => exact heldOff_congr h rfl rfl
  | latch => exact heldOff_congr h (by rw [setLatch_fsc]) (setLatch_link s).1
  | fade => exact heldOff_congr h (by simp) (by unfold fade; split <;> simp [postRows_llc])
  | complete =>
    obtain ⟨part, fsc⟩ := Shed.complete_fsc s
    intro held
    rw [fsc] at held
    exact complete_state_of_off (h held)
  | due r => exact heldOff_congr h (by simp) (by unfold rowBecomesDue; split <;> simp)
  | reInit => exact heldOff_congr h (by simp) (by unfold reInitExpiry; split <;> simp)
  | cells w => exact heldOff_congr h (by rw [CellWrite.apply_fsc]) (by rw [CellWrite.apply_llc, CellWrite.written_llc])
  | @row r factor shed => exact heldOff_congr h (by simp) (by rw [writeRow_eq]; split <;> simp [rowStored])
  | interval v => exact heldOff_congr h (by simp) (by unfold setInterval; split <;> simp)
  | night => exact heldOff_congr h (enterStandby_resetHeld s) (by simp)
  | day => exact heldOff_congr h (leaveStandby_resetHeld s) (by simp)
  | _ => exact heldOff_congr h (by simp) (by simp)

/-- What the rows of a tick keep, with the due rows still to be taken. -/
structure Resting (D : Fin 8 → Prop) (s : State) : Prop where
  ranges : s.Ranges
  held : HeldOff s
  rest : RestedBut D s

theorem resting_effect {D : Fin 8 → Prop} (s t : State) (e : Effect s t) (h : Resting D s) : Resting D t :=
  ⟨ranges_effect s t e h.ranges, heldOff_effect e h.held, restedBut_effect e h.ranges.levels.interval.1 h.rest⟩

/-- A row taken is no longer to be taken: its prompt leaves the link at rest. -/
theorem rested_happen_rowDue {D : Fin 8 → Prop} {s : State} {r : Fin 8} (h : Resting (fun x => x = r ∨ D x) s) :
    RestedBut D (s.happen (.rowDue r)) := by
  cases held : s.fsc.resetHeld with
  | true =>
    have run : exec (.rowDue r) s = .next s := by
      show unlessHeld (fun s => s.rowBecomesDue r) s = _
      simp [unlessHeld, held]
    rw [happen_eq run]
    exact restedBut_of_ne (by rw [h.held held]; nofun)
  | false =>
    have run : exec (.rowDue r) s = .next (s.rowBecomesDue r) := by
      show unlessHeld (fun s => s.rowBecomesDue r) s = _
      simp [unlessHeld, held]
    rw [happen_eq run]
    unfold rowBecomesDue
    split
    · exact restedBut_prompt _
    · next absent =>
      intro inRun idle
      obtain ⟨shed, init, interval, due⟩ := h.rest inRun idle
      refine ⟨shed, init, interval, fun x a at' => (due x a at').resolve_left ?_⟩
      rintro rfl
      exact absent a inRun (dueAge_eq_some.mp at').2.1

theorem resting_happens (l : List Instr) {s : State} (h : Resting (fun r => .rowDue r ∈ l) s) :
    Resting (fun _ => False) (l.foldl happen s) := by
  induction l generalizing s with
  | nil => exact ⟨h.ranges, h.held, restedBut_mono h.rest nofun⟩
  | cons c l ih =>
    have next := (happen_effects c s).keeps resting_effect h
    refine ih ⟨next.ranges, next.held, ?_⟩
    by_cases taken : ∃ r, c = .rowDue r
    · obtain ⟨r, rfl⟩ := taken
      exact rested_happen_rowDue ⟨h.ranges, h.held, restedBut_mono h.rest fun x mem => by simpa using mem⟩
    · exact restedBut_mono next.rest fun x mem => (List.mem_cons.mp mem).resolve_left fun same => taken ⟨x, same.symm⟩

/-- A tick may make rows due, and takes each of them. -/
theorem resting_advance {s : State} (ranges : s.Ranges) (free : s.fsc.resetHeld = false) (h : s.Rested) :
    Resting (fun r => .rowDue r ∈ s.advance.dueNow) s.advance := by
  refine ⟨ranges_advance ranges, fun held => absurd (free.symm.trans held) nofun, fun run idle => ?_⟩
  obtain ⟨shed, init, interval, -⟩ := h run (by simpa [advance] using idle)
  refine ⟨shed, init, interval, fun r a due => (mem_dueNow _ _).mpr ?_⟩
  have ageDue : s.advance.ageDue r = true := by rw [ageDue, due]; simp [run]
  simp [ageDue]

/-- Settles O13. -/
theorem stepKeepsRested : Obligations.StepKeepsRested := by
  intro s t ranges rested step
  rcases step_cases step with ⟨rest, seq⟩ | rfl
  · refine (rested_iff t).mpr (seq.keeps (P := fun s => s.Ranges ∧ RestedBut (fun _ => False) s)
      (fun s t e h => ⟨ranges_effect s t e h.1, restedBut_effect e h.1.levels.interval.1 h.2⟩)
      ⟨ranges_setPending ranges rest, (rested_iff s).mp rested⟩).2
  cases held : s.fsc.resetHeld with
  | true => rwa [tick_held held]
  | false =>
    rw [tick_free held]
    exact (rested_iff _).mpr (resting_happens _ (resting_advance ranges held rested)).rest

end Sys2Proof.Proofs.Rested
end

section
/-! PROOF. What a full reset leaves, and that it meets every invariant (O4, O5). -/

namespace Sys2Proof.Proofs.Reset

open Sys2Proof.Machine Sys2Proof.Machine.State

/-- Settles O4: every value stands in `State.reset` as it is written there, and every table's record is its constant. -/
theorem resetValues : Obligations.ResetValues := by
  have line (l : Fin 4) : State.reset.slu.timers.get l = none ∧ State.reset.slu.inFlight.get l = none :=
    ⟨Table.get_const _ _, Table.get_const _ _⟩
  have sensor (i : Fin 16) : State.reset.slu.sensors.get i = .cleared true := Table.get_const _ _
  have sec (i : Fin 16) : State.reset.dle.sections.get i = .unseeded 3 := Table.get_const _ _
  have row (r : Fin 8) : State.reset.ct.rows.get r = ⟨factoryDaylightFactor r, 500, .live⟩ :=
    Table.get_ofFn_eq (t := State.reset.ct.rows) (f := fun r : Fin 8 => ⟨factoryDaylightFactor r, 500, .live⟩) rfl rfl r
  unfold Obligations.ResetValues
  iterate 20 refine ⟨rfl, ?_⟩
  refine ⟨fun l => ⟨(line l).1, (line l).2, ?idle⟩, fun i => by rw [sensor]; exact ⟨rfl, rfl, rfl, rfl, rfl, rfl⟩, rfl, rfl, rfl, rfl, rfl,
    rfl, rfl, rfl, fun c => ⟨Table.get_const _ _, Table.get_const _ _, Table.get_const _ _, Table.get_const _ _, Table.get_const _ _⟩,
    fun r => by rw [row], fun i => by rw [sec]; exact ⟨rfl, rfl, rfl⟩⟩
  case idle => simp [sensorTx, (line l).2]

theorem reset_paired : State.reset.Seeded ∧ State.reset.Sensed :=
  (Sensors.paired_iff _).mpr fun i => by
    rw [show State.reset.slu.sensors.get i = .cleared true from Table.get_const _ _,
      show State.reset.dle.sections.get i = .unseeded 3 from Table.get_const _ _]
    exact Sensors.paired_cleared _ rfl true

theorem reset_sensorRanges : State.reset.SensorRanges :=
  (Sensors.sensorRanges_iff _).mpr ⟨⟨Sensors.linksOk_factory, Sensors.attenuationOk_factory⟩, fun i => by
    rw [show State.reset.slu.sensors.get i = .cleared true from Table.get_const _ _,
      show State.reset.dle.sections.get i = .unseeded 3 from Table.get_const _ _]
    exact ⟨Sensors.sensorOk_cleared true, Nat.zero_le _, by decide, ⟨nofun, Nat.zero_le _⟩, fun _ => rfl⟩⟩

theorem reset_levelRanges : State.reset.LevelRanges := by
  refine (Ranges.levelRanges_iff _).mpr ⟨fun c => ?_, ⟨fun c => ?_, Ranges.profileOk_factory⟩, ⟨fun c => ?_, nofun, ?_, nofun⟩⟩
  · rw [show State.reset.lau.cells.get c = .cleared from Table.get_const _ _]
    exact Ranges.lauOk_cleared
  · rw [show State.reset.fdu.levels.get c = none from Table.get_const _ _]
    exact Ranges.within_none _
  · rw [show State.reset.llc.taken.get c = none from Table.get_const _ _]
    exact Ranges.within_none _
  · exact (by decide : intervalOk 500)

/-- Settles O5. -/
theorem resetMeetsInvariants : Obligations.ResetMeetsInvariants :=
  ⟨StartUp.startUp_of_reset false rfl rfl rfl rfl rfl rfl rfl rfl rfl ⟨_, rfl, rfl, rfl⟩, Masters.masters_of_factory rfl rfl rfl,
    Listed.listed_reset rfl, Fitted.fitted_reset rfl rfl rfl rfl, reset_paired.1, reset_paired.2,
    Dithered.dithered_of_cleared fun _ => Table.get_const _ _,
    (Shed.shed_iff _).mpr ⟨⟨⟨Nat.zero_le _, nofun⟩, fun latch => absurd latch nofun⟩, nofun⟩, nofun,
    ⟨Ranges.ctRanges_reset, reset_sensorRanges, Ranges.listRanges_reset, reset_levelRanges⟩⟩

end Sys2Proof.Proofs.Reset
end

section
/-! PROOF. One tick: what it counts, and the rows it brings (O2). -/

namespace Sys2Proof.Proofs.Idle

open Sys2Proof.Machine Sys2Proof.Machine.State Sys2Proof.Proofs.Effects

/-- A frame, block by block. -/
theorem keepsBut_of {s t : State} {l : List Block} (ct : .ct ∉ l → t.ct = s.ct := by simp) (slu : .slu ∉ l → t.slu = s.slu := by simp)
    (dle : .dle ∉ l → t.dle = s.dle := by simp) (rlu : .rlu ∉ l → t.rlu = s.rlu := by simp) (lau : .lau ∉ l → t.lau = s.lau := by simp)
    (fdu : .fdu ∉ l → t.fdu = s.fdu := by simp) (llc : .llc ∉ l → t.llc = s.llc := by simp) (fsc : .fsc ∉ l → t.fsc = s.fsc := by simp)
    (sst : .sst ∉ l → t.sst = s.sst := by simp) (zbi : .zbi ∉ l → t.zbi = s.zbi := by simp)
    (queue : .queue ∉ l → t.pending = s.pending := by simp) : s.keepsBut l t := fun b h => by
  cases b
  exacts [ct h, slu h, dle h, rlu h, lau h, fdu h, llc h, fsc h, sst h, zbi h, queue h]

/-! ### What a tick counts -/

theorem advance_row (s : State) (r : Fin 8) :
    s.advance.ct.rows.get r = { s.ct.rows.get r with freeze := (s.ct.rows.get r).freeze.tick } := Table.get_map _ _ _

theorem advance_sensor (s : State) (i : Fin 16) : s.advance.slu.sensors.get i = (s.slu.sensors.get i).tick s.slu.polling :=
  Table.get_map _ _ _

theorem tick_eq (polling : Bool) (r : Sensor) : r.tick polling =
    if polling = true ∧ r.present = true then { r with since := min (r.since + 1) (6553500 * 125) } else r := by
  unfold Sensor.tick
  cases polling <;> cases r.present <;> rfl

theorem advance_age (s : State) (r : Fin 8) :
    s.advance.llc.ages.get r = if s.llc.state = .run then (s.llc.ages.get r).map (· + 1) else s.llc.ages.get r := by
  show (if s.llc.state = .run then s.llc.ages.map (Option.map (· + 1)) else s.llc.ages).get r = _
  split
  · exact Table.get_map _ _ _
  · rfl

/-! ### The rows a tick brings -/

theorem healthDue_iff (s : State) (i : Fin 16) :
    s.healthDue i = true ↔ s.slu.polling = true ∧
      (((s.slu.sensors.get i).health = .fresh ∧ 2000 * 125 ≤ (s.slu.sensors.get i).since) ∨
        (((s.slu.sensors.get i).health = .stale ∨ (s.slu.sensors.get i).health = .waiting) ∧
          30000 * 125 ≤ (s.slu.sensors.get i).since)) := by
  rw [healthDue, Bool.and_eq_true]
  cases (s.slu.sensors.get i).health <;> simp [Sensor.limit, Timing.stale, Timing.failed, Timing.ticksOfMs]

theorem pollLapsed_iff (s : State) (l : Fin 4) :
    s.pollLapsed l = true ↔ ∃ p, s.slu.inFlight.get l = some p ∧
      ((p.started = none ∧ (11 + 3 * 11) * s.slu.bitUnits l ≤ 24576 * p.elapsed) ∨
        ∃ e, p.started = some e ∧ 6 * 11 * s.slu.bitUnits l ≤ 24576 * (p.elapsed - e)) := by
  rw [pollLapsed, Option.any_eq_true]
  exact exists_congr fun p => and_congr_right fun _ => pollOver_iff _ _ _

theorem ageDue_iff (s : State) (r : Fin 8) :
    s.ageDue r = true ↔ s.llc.state = .run ∧ s.ct.configured r = true ∧
      ∃ age, s.llc.ages.get r = some age ∧ s.llc.interval * 125 ≤ 2 * age := by
  rw [ageDue, Bool.and_eq_true, decide_eq_true_eq, Option.isSome_iff_exists]
  simp only [Rested.dueAge_eq_some, exists_and_left]

/-- A flight has ended whose frame is of a kind, cut or not. -/
def Ended (s : State) (kind : Frame → Prop) (cut : Bool) : Prop :=
  ∃ f, s.llc.flight = some f ∧ kind f.frame ∧ f.cut = cut ∧ f.ends ≤ f.elapsed

/-- The row that completes a flight, by its kind. -/
theorem completion_due_iff (s : State) (c : Instr) (kind : Frame → Prop) (cut : Bool)
    (h : ∀ f : Flight, c = f.completion ↔ kind f.frame ∧ f.cut = cut) :
    (∃ f, s.llc.flight = some f ∧ f.ends ≤ f.elapsed ∧ c = f.completion) ↔ Ended s kind cut := by
  refine exists_congr fun f => and_congr_right fun _ => ?_
  rw [h f, and_comm, and_assoc]

theorem initGroupComplete_iff (f : Flight) : Instr.initGroupComplete = f.completion ↔ f.frame = .initGroup ∧ f.cut = false := by
  unfold Flight.completion; cases f.cut <;> cases f.frame <;> simp

theorem burstComplete_iff (f : Flight) :
    Instr.burstComplete = f.completion ↔ (∃ r first bays, f.frame = .burst r first bays) ∧ f.cut = false := by
  unfold Flight.completion; cases f.cut <;> cases f.frame <;> simp

theorem allTouchComplete_iff (f : Flight) : Instr.allTouchComplete = f.completion ↔ f.frame = .allTouch ∧ f.cut = false := by
  unfold Flight.completion; cases f.cut <;> cases f.frame <;> simp

theorem shedFrameComplete_iff (f : Flight) :
    Instr.shedFrameComplete = f.completion ↔ (∃ levels, f.frame = .shed levels) ∧ f.cut = false := by
  unfold Flight.completion; cases f.cut <;> cases f.frame <;> simp

theorem cutFrameComplete_iff (f : Flight) : Instr.cutFrameComplete = f.completion ↔ True ∧ f.cut = true := by
  unfold Flight.completion; cases f.cut <;> cases f.frame <;> simp

/-- A command that is no row's completes no flight. -/
theorem no_completion {c : Instr} (h : ∀ f : Flight, c ≠ f.completion) (s : State) :
    ¬∃ f, s.llc.flight = some f ∧ f.ends ≤ f.elapsed ∧ c = f.completion := fun ⟨f, _, _, same⟩ => h f same

theorem completion_mem (f : Flight) :
    f.completion ∈ [Instr.initGroupComplete, .burstComplete, .allTouchComplete, .shedFrameComplete, .cutFrameComplete] := by
  unfold Flight.completion; cases f.cut <;> cases f.frame <;> simp

theorem ne_completion {c : Instr}
    (h : c ∉ [Instr.initGroupComplete, .burstComplete, .allTouchComplete, .shedFrameComplete, .cutFrameComplete]) (f : Flight) :
    c ≠ f.completion := fun same => h (same ▸ completion_mem f)

/-- Rows that complete no flight, by the counts that bring them. -/
theorem mem_dueNow_iff {s : State} {c : Instr}
    (h : c ∉ [Instr.initGroupComplete, .burstComplete, .allTouchComplete, .shedFrameComplete, .cutFrameComplete]) :
    c ∈ s.dueNow ↔
      (c = .loadComplete ∧ ∃ n, s.sst.loading = some n ∧ 20 * 125 ≤ n) ∨
      (c = .saveComplete ∧ ∃ v, s.sst.saving = some v ∧ 400 * 125 ≤ v.elapsed) ∨
      (c = .shednAsserted ∧ 125 ≤ s.fsc.steady ∧ s.fsc.shedn = false ∧ s.fsc.lineAsserted = false) ∨
      (c = .shednReleased ∧ 125 ≤ s.fsc.steady ∧ s.fsc.shedn = true ∧ s.fsc.lineAsserted = true) ∨
      (c = .addressByte .released ∧ ∃ n, s.zbi.lines.hold = some n ∧ 2 * 125 ≤ n) ∨
      (c = .clockLowTimeout ∧ s.zbi.lines.low = some (25 * 125)) ∨
      (c = .rluOneSecondTimer ∧ ∃ n, s.rlu.timer = some n ∧ 1000 * 125 ≤ n) ∨
      (c = .dleOneSecondTimer ∧ ∃ n, s.dle.timer = some n ∧ 1000 * 125 ≤ n) ∨
      (∃ r, c = .freezeTimerExpiry r ∧ (s.ct.rows.get r).freeze = .frozen 0) ∨
      (∃ i, c = .healthTimeout i ∧ s.healthDue i = true) ∨
      (∃ l, c = .noReply l ∧ s.pollLapsed l = true) ∨
      (∃ l, c = .pollTimer l .expires ∧ ∃ n, s.slu.timers.get l = some n ∧ 50 * 125 ≤ n) ∨
      (c = .reInitTimer ∧ ∃ n, s.llc.reInit = some n ∧ 10000 * 125 ≤ n) ∨
      (∃ r, c = .rowDue r ∧ s.ageDue r = true) ∨
      (c = .fadeEvent ∧ ∃ n, s.fdu.timer = some n ∧ 100 * 125 ≤ n) := by
  have none : (∃ f, s.llc.flight = some f ∧ f.ends ≤ f.elapsed ∧ c = f.completion) = False :=
    eq_false (no_completion (ne_completion h) s)
  rw [mem_dueNow, none, or_false, qualified_iff]
  simp only [reached_iff, Timing.load, Timing.save, Timing.qualify, Timing.clockHold, Timing.clockLow, Timing.second, Timing.poll,
    Timing.reInit, Timing.fade, Timing.ticksOfMs, one_mul, Option.map_eq_some_iff, or_assoc]
  simp only [exists_exists_and_eq_and, and_comm (a := s.fsc.lineAsserted = _)]

/-- A row that completes flights, by the flight it completes. -/
theorem mem_dueNow_completion {s : State} {c : Instr} {kind : Frame → Prop} {cut : Bool}
    (mem : c ∈ [Instr.initGroupComplete, .burstComplete, .allTouchComplete, .shedFrameComplete, .cutFrameComplete])
    (h : ∀ f : Flight, c = f.completion ↔ kind f.frame ∧ f.cut = cut) : c ∈ s.dueNow ↔ Ended s kind cut := by
  rw [← completion_due_iff s c kind cut h, mem_dueNow]
  simp only [List.mem_cons, List.not_mem_nil, or_false] at mem
  rcases mem with rfl | rfl | rfl | rfl | rfl <;> simp [qualified_iff]

/-- Settles O2. -/
theorem idleStepIsOneTick : Obligations.IdleStepIsOneTick := by
  refine ⟨fun s idle => ⟨fun held => ?held, fun free => ?free⟩, fun s t c => happen_eq, fun s => ?counts, fun a c => ?rows⟩
  case held => rw [step_of_idle idle, tick_held held]
  case free => rw [step_of_idle idle, tick_free free]
  case counts =>
    refine ⟨keepsBut_of (by simp) (by simp) (by simp) (by simp) (fun _ => rfl) (by simp) (by simp) (by simp) (by simp) (by simp)
        (fun _ => rfl), rfl, rfl, rfl, fun r => ⟨fun live => ?_, fun n frozen => ?_⟩, rfl, rfl, rfl, fun i => ?_,
      fun l => ⟨Table.get_map _ _ _, Table.get_map _ _ _, Table.get_map _ _ _⟩, rfl, rfl, rfl, rfl, advance_age s, rfl, rfl⟩
    · rw [advance_row]; simp only [live, Freeze.tick]; rw [← live]
    · rw [advance_row, frozen]; rfl
    · rw [advance_sensor, tick_eq]
  case rows =>
    cases c with
    | initGroupComplete =>
      exact mem_dueNow_completion (kind := fun f => f = .initGroup) (by simp) initGroupComplete_iff
    | burstComplete =>
      exact mem_dueNow_completion (kind := fun f => ∃ r first bays, f = .burst r first bays) (by simp) burstComplete_iff
    | allTouchComplete =>
      exact mem_dueNow_completion (kind := fun f => f = .allTouch) (by simp) allTouchComplete_iff
    | shedFrameComplete =>
      exact mem_dueNow_completion (kind := fun f => ∃ levels, f = .shed levels) (by simp) shedFrameComplete_iff
    | cutFrameComplete =>
      exact mem_dueNow_completion (kind := fun _ => True) (by simp) cutFrameComplete_iff
    | healthTimeout i => rw [mem_dueNow_iff (by simp)]; simpa using healthDue_iff a i
    | noReply l => rw [mem_dueNow_iff (by simp)]; simpa [SensorLinks.bitUnits] using pollLapsed_iff a l
    | rowDue r => rw [mem_dueNow_iff (by simp)]; simpa using ageDue_iff a r
    | _ => rw [mem_dueNow_iff (by simp)]; simp

end Sys2Proof.Proofs.Idle
end

section
/-! PROOF. The reset events, and the part held in reset (O17). -/

namespace Sys2Proof.Proofs.ResetEvents

open Sys2Proof.Machine Sys2Proof.Machine.State Sys2Proof.Proofs.Idle

/-- A full reset finds the bus's lines and SHEDn as the other parties drive them, and changes nothing else of the reset values but
the receive lines, the store and the queue. -/
theorem fullReset_linked (s : State) :
    s.fullReset.slu = { State.reset.slu with lines := s.fullReset.slu.lines } ∧
      ∀ l : Fin 4, s.fullReset.slu.lines.get l = ⟨none, (s.slu.lines.get l).low⟩ := ⟨rfl, fullReset_line s⟩

theorem keepsBut_fullReset (s : State) : State.reset.keepsBut [.slu, .fsc, .sst, .zbi, .queue] s.fullReset :=
  keepsBut_of (fun _ => rfl) (by simp) (fun _ => rfl) (fun _ => rfl) (fun _ => rfl) (fun _ => rfl) (fun _ => rfl) (by simp) (by simp)
    (by simp) (by simp)

theorem keepsBut_holdReset (s : State) : State.reset.keepsBut [.slu, .fsc, .sst, .zbi, .queue] s.holdReset :=
  keepsBut_of (fun _ => rfl) (by simp) (fun _ => rfl) (fun _ => rfl) (fun _ => rfl) (fun _ => rfl) (fun _ => rfl) (by simp) (by simp)
    (by simp) (by simp)

/-- While RSTn holds the part, only what others drive at its pins changes it (log 17). -/
theorem exec_held {s : State} (held : s.fsc.resetHeld = true) {c : Instr} (power : c ≠ .powerOn) (low : c ≠ .rstnLow)
    (release : c ≠ .rstnRelease) (lines : ∀ zcl zda, c ≠ .addressByte (.lines zcl zda))
    (shedn : ∀ high, c ≠ .addressByte (.shedn high)) (falls : ∀ l, c ≠ .pollTimer l .falls) (rises : ∀ l, c ≠ .pollTimer l .rises) :
    exec c s = .next s := by
  cases c with
  | powerOn => exact absurd rfl power
  | rstnLow => exact absurd rfl low
  | rstnRelease => exact absurd rfl release
  | addressByte event =>
    have run : exec (.addressByte event) s = .next (s.pinWhileHeld event) := by
      show Host.Outcome.next (if s.fsc.resetHeld then _ else _) = _
      rw [held]; rfl
    rw [run]
    cases event with
    | lines zcl zda => exact absurd rfl (lines zcl zda)
    | shedn high => exact absurd rfl (shedn high)
    | address | byte | released => rfl
  | pollTimer l event =>
    cases event with
    | falls => exact absurd rfl (falls l)
    | rises => exact absurd rfl (rises l)
    | expires =>
      show Host.Outcome.next (if s.fsc.resetHeld then _ else _) = _
      rw [held]; rfl
  | requestDiscarded source code length p check => exact unlessHeld_held held fun s => s.bytesWritten _
  | replyRead n ackLast => exact unlessHeld_held held fun s => s.readWhole n ackLast
  | sensorReply l c1 c2 c3 => exact unlessHeld_held held fun s => s.replyOn l c1 c2 c3
  | noReply l => exact unlessHeld_held held fun s => s.noReplyOn l
  | healthTimeout i => exact unlessHeld_held held fun s => s.healthLimit i
  | freezeTimerExpiry r => exact unlessHeld_held held fun s => s.unfreezeRows _
  | rowDue r => exact unlessHeld_held held fun s => s.rowBecomesDue r
  | initGroupComplete | burstComplete | allTouchComplete | shedFrameComplete | cutFrameComplete =>
    exact unlessHeld_held held fun s => s.completeIf _
  | loadComplete | shednAsserted | shednReleased | stop | clockLowTimeout | saveComplete | dleOneSecondTimer | rluOneSecondTimer
  | fadeEvent | reInitTimer => exact unlessHeld_held held _
  | setTarget a p | setFixed a p | setCap a p | release a p | releaseOwn a p | releaseSlot a p | blindStep a p | readCells a p
  | readSections a p | readRequests a p | readStatus a p | readSensors a p | clearShortfall a p | writeCellField a p
  | writeRow a p | calApply a p | writeMasterSlot a p | writeBlindTable a p | writeProfile a p | writeSensor a p
  | writeLinks a p | writePart a p | saveSettings a p | restart a p | night a p | day a p | shed a p | shedClear a p
  | requestWithUnknownCode code a p => exact unlessHeld_held held fun s => s.bytesWritten _

/-- Settles O17. -/
theorem resetEvents : Obligations.ResetEvents := by
  intro s store found linked
  refine ⟨⟨s.fullReset, rfl, rfl, rfl, rfl, rfl, rfl, fullReset_linked s, keepsBut_fullReset s⟩,
    ⟨s.holdReset, rfl, rfl, rfl, rfl, rfl, rfl, fullReset_linked s, keepsBut_holdReset s⟩,
    fun held => ⟨s.fullReset, ?release, rfl, rfl, rfl, rfl, rfl, fullReset_linked s, keepsBut_fullReset s⟩,
    fun held c power low release lines shedn falls rises => exec_held held power low release lines shedn falls rises,
    fun held zcl zda => ?driven, fun held l => ⟨?falls, ?rises⟩⟩
  case release =>
    show Host.Outcome.next s.releaseReset = _
    rw [releaseReset, if_pos held]
  all_goals
    show Host.Outcome.next (if s.fsc.resetHeld then _ else _) = _
    rw [held]
    rfl

end Sys2Proof.Proofs.ResetEvents
end

section
/-! PROOF. What a taken request comes to, in terms of its owner's answer: the part its owner sees, a refusal, and an answer that leaves
the ZBI to the reply (R163, R171). -/

namespace Sys2Proof.Machine.State

/-- The part as a taken request's owner sees it: the check byte acknowledged, in EXECUTING (R163). -/
def taking (s : State) : State := s.clocked.enterExecuting

@[simp] theorem taking_ct (s : State) : s.taking.ct = s.ct := rfl
@[simp] theorem taking_slu (s : State) : s.taking.slu = s.slu := rfl
@[simp] theorem taking_dle (s : State) : s.taking.dle = s.dle := rfl
@[simp] theorem taking_rlu (s : State) : s.taking.rlu = s.rlu := rfl
@[simp] theorem taking_lau (s : State) : s.taking.lau = s.lau := rfl
@[simp] theorem taking_fdu (s : State) : s.taking.fdu = s.fdu := rfl
@[simp] theorem taking_llc (s : State) : s.taking.llc = s.llc := rfl
@[simp] theorem taking_fsc (s : State) : s.taking.fsc = s.fsc := rfl
@[simp] theorem taking_sst (s : State) : s.taking.sst = s.sst := rfl
@[simp] theorem taking_pending (s : State) : s.taking.pending = s.pending := rfl
@[simp] theorem taking_own (s : State) : s.taking.zbi.own = s.zbi.own := rfl
@[simp] theorem taking_slots (s : State) : s.taking.zbi.slots = s.zbi.slots := rfl
@[simp] theorem taking_pendingOwn (s : State) : s.taking.zbi.pendingOwn = s.zbi.pendingOwn := rfl

section
variable (s : State) (status : Status) (data : List Byte)
@[simp] theorem holdReply_ct : (s.holdReply status data).ct = s.ct := rfl
@[simp] theorem holdReply_slu : (s.holdReply status data).slu = s.slu := rfl
@[simp] theorem holdReply_dle : (s.holdReply status data).dle = s.dle := rfl
@[simp] theorem holdReply_rlu : (s.holdReply status data).rlu = s.rlu := rfl
@[simp] theorem holdReply_lau : (s.holdReply status data).lau = s.lau := rfl
@[simp] theorem holdReply_fdu : (s.holdReply status data).fdu = s.fdu := rfl
@[simp] theorem holdReply_llc : (s.holdReply status data).llc = s.llc := rfl
@[simp] theorem holdReply_fsc : (s.holdReply status data).fsc = s.fsc := rfl
@[simp] theorem holdReply_sst : (s.holdReply status data).sst = s.sst := rfl
@[simp] theorem holdReply_pending : (s.holdReply status data).pending = s.pending := rfl
end

/-- The state that a request leaves whose owner has not touched the ZBI. -/
def answered (s t : State) (status : Status) (data : List Byte) : State := t.setZbi (repliedWith s.zbi status data)

section
variable (s t : State) (status : Status) (data : List Byte)
@[simp] theorem answered_ct : (s.answered t status data).ct = t.ct := rfl
@[simp] theorem answered_slu : (s.answered t status data).slu = t.slu := rfl
@[simp] theorem answered_dle : (s.answered t status data).dle = t.dle := rfl
@[simp] theorem answered_rlu : (s.answered t status data).rlu = t.rlu := rfl
@[simp] theorem answered_lau : (s.answered t status data).lau = t.lau := rfl
@[simp] theorem answered_fdu : (s.answered t status data).fdu = t.fdu := rfl
@[simp] theorem answered_llc : (s.answered t status data).llc = t.llc := rfl
@[simp] theorem answered_fsc : (s.answered t status data).fsc = t.fsc := rfl
@[simp] theorem answered_sst : (s.answered t status data).sst = t.sst := rfl
@[simp] theorem answered_pending : (s.answered t status data).pending = t.pending := rfl
@[simp] theorem answered_zbi : (s.answered t status data).zbi = repliedWith s.zbi status data := rfl
@[simp] theorem answered_repliedStatus : (s.answered t status data).repliedStatus = some status := rfl
end

section
variable {s t : State} {k : Request} {source : Byte} {p : List Byte} {n : Fin 8} {status : Status} {data : List Byte}

/-- The state that an answer leaves, whatever the owner has done in the ZBI. -/
theorem Takes.served (h : s.Takes k source p n) (owner : ownerOf k n p s.taking = ⟨t, status, data⟩) :
    request k.code source p s = .next (t.holdReply status data) := by
  have row := h.request_eq
  change request k.code source p s = .next ((ownerOf k n p s.taking).state.holdReply (ownerOf k n p s.taking).status
    (ownerOf k n p s.taking).data) at row
  rwa [owner] at row

/-- The state that an answer leaves whose owner has not touched the ZBI. -/
theorem Takes.answered (h : s.Takes k source p n) (owner : ownerOf k n p s.taking = ⟨t, status, data⟩)
    (zbi : t.zbi = s.taking.zbi) : request k.code source p s = .next (s.answered t status data) := by
  rw [h.served owner]
  have := holdReply_zbi_of zbi status data
  rw [State.answered, ← this]
  rfl

/-- A refusal of the owner's changes nothing but the ZBI (R171). -/
theorem Takes.refused (h : s.Takes k source p n) (owner : ownerOf k n p s.taking = .refuse s.taking status) :
    request k.code source p s = .next (s.setZbi (repliedWith s.zbi status [])) :=
  h.answered (t := s.taking) owner rfl

end

/-- What the owner leaves, the part keeps, but for the ZBI that holds the reply. -/
theorem keepsBut_answered {s t : State} {l : List Block} (zbi : .zbi ∈ l) (h : s.taking.keepsBut l t) (status : Status)
    (data : List Byte) : s.keepsBut l (s.answered t status data) := fun b kept => by
  have same := h b kept
  cases b with
  | zbi => exact absurd zbi kept
  | _ => exact same

theorem keepsBut_holdReply {s t : State} {l : List Block} (zbi : .zbi ∈ l) (h : s.taking.keepsBut l t) (status : Status)
    (data : List Byte) : s.keepsBut l (t.holdReply status data) := fun b kept => by
  have same := h b kept
  cases b with
  | zbi => exact absurd zbi kept
  | _ => exact same

end Sys2Proof.Machine.State
end

section
/-! PROOF. Calibration writes of rows: WRITE ROW, CAL APPLY, the freeze timer and CLEAR SHORTFALL (O36, O37, O38), the clamps of R3
(O32) and the capture of held bases (O35). -/

namespace Sys2Proof.Proofs.Calibration

open Sys2Proof.Machine Sys2Proof.Machine.State Sys2Proof.Proofs.Idle

/-! ### Rows made LIVE -/

theorem byteAt_single (b : Byte) : byteAt [b] 0 = b.toNat := rfl

theorem rowNamed_iff (row : Byte) (r : Fin 8) : rowNamed row.toNat r = true ↔ row = 0xFF ∨ r.val = row.toNat := by
  simp only [rowNamed, Bool.or_eq_true, decide_eq_true_eq]
  refine or_congr_left ⟨fun h => BitVec.eq_of_toNat_eq h, fun h => by rw [h]; rfl⟩

/-- An operand that names no row and not every row is refused (R21, R104). -/
theorem rowRefused {row : Byte} (h : 7 < row.toNat) (every : row ≠ 0xFF) : 7 < row.toNat ∧ row.toNat ≠ 255 :=
  ⟨h, fun same => every (BitVec.eq_of_toNat_eq same)⟩

theorem rowTaken {row : Byte} (h : row.toNat ≤ 7 ∨ row = 0xFF) : ¬(7 < row.toNat ∧ row.toNat ≠ 255) := by
  rcases h with h | rfl
  · omega
  · simp

/-- A row made LIVE was FROZEN, or is as it was (R20). -/
theorem thawed_row (s : State) {names : Fin 8 → Bool} {named : Fin 8 → Prop} [DecidablePred named] (h : ∀ r, names r = true ↔ named r)
    (r : Fin 8) :
    (s.unfreezeRows names).ct.rows.get r =
      if named r then { s.ct.rows.get r with freeze := .live } else s.ct.rows.get r := by
  rw [unfreezeRows_rows]
  by_cases picked : named r
  · rw [if_pos picked]
    cases frozen : s.ct.rowFrozen r with
    | true => rw [if_pos (by simp [(h r).mpr picked])]
    | false =>
      have live : (s.ct.rows.get r).freeze = .live := by
        simp only [CellTable.rowFrozen] at frozen
        split at frozen <;> simp_all
      simp [← live]
  · rw [if_neg picked, if_neg (by simp [h, picked])]

theorem thawed_held (s : State) {names : Fin 8 → Bool} {named : Fin 8 → Prop} [DecidablePred named] (h : ∀ r, names r = true ↔ named r)
    (c : Fin 256) :
    (s.unfreezeRows names).ct.held.get c =
      if named (rowOf c) ∧ s.ct.frozenCell c = true then none else s.ct.held.get c := by
  rw [unfreezeRows_held]
  refine if_congr ?_ rfl rfl
  rw [Bool.and_eq_true, h, and_comm]
  rfl

/-- Settles O37. -/
theorem rowsThaw : Obligations.RowsThaw := by
  refine ⟨fun s source row n h => ⟨fun above every => ?_, fun named => ?_⟩, fun s row free => ?_⟩
  · refine h.refused ?_
    show takeCalApply n [row] s.taking = _
    exact if_pos (rowRefused above every)
  · have owner : takeCalApply n [row] s.taking = .plain (s.taking.unfreezeRows (rowNamed row.toNat))
        (if allRows.any fun r => rowNamed row.toNat r && s.ct.rowFrozen r then .done else .doneNothing) := if_neg (rowTaken named)
    refine ⟨_, h.answered owner rfl, keepsBut_answered (by simp) keepsBut_of _ _, rfl,
      thawed_row s.taking (rowNamed_iff row), thawed_held s.taking (rowNamed_iff row), ?_⟩
    simp [allRows, rowNamed_iff]
  · have thaw : exec (.freezeTimerExpiry row) s = .next (s.unfreezeRows fun r => decide (r = row)) := 
      unlessHeld_free free fun s => s.unfreezeRows fun r => decide (r = row)
    exact ⟨_, thaw, keepsBut_of, rfl, thawed_row s fun r => decide_eq_true_iff, thawed_held s fun r => decide_eq_true_iff⟩

/-! ### Shortfall flags -/

/-- A cell whose shortfall flag a CLEAR SHORTFALL clears (R104). -/
def cleared (s : State) (row : Nat) (c : Fin 256) : Bool := rowNamed row (rowOf c) && (s.lau.cells.get c).shortfall

/-- CLEAR SHORTFALL, where its operand names a row. -/
theorem takeClearShortfall_eq {s : State} {row : Byte} (h : row.toNat ≤ 7 ∨ row = 0xFF) (n : Fin 8) :
    takeClearShortfall n [row] s =
      { state := s.setLau { s.lau with
          cells := .ofFn fun c : Fin 256 =>
            if cleared s row.toNat c then { s.lau.cells.get c with shortfall := false } else s.lau.cells.get c },
        status := if allCells.countP (cleared s row.toNat) = 0 then .doneNothing else .done,
        data := halfBytes (allCells.countP (cleared s row.toNat)) } := if_neg (rowTaken h)

/-- A flag that is clear already is cleared by nothing. -/
theorem clearedRecord (s : State) (row : Byte) (c : Fin 256) :
    (if cleared s row.toNat c then { s.lau.cells.get c with shortfall := false } else s.lau.cells.get c) =
      if row = 0xFF ∨ (rowOf c).val = row.toNat then { s.lau.cells.get c with shortfall := false } else s.lau.cells.get c := by
  simp only [cleared, Bool.and_eq_true, rowNamed_iff]
  cases flag : (s.lau.cells.get c).shortfall with
  | true => simp
  | false => simp [← flag]

/-- Settles O38. -/
theorem shortfallCleared : Obligations.ShortfallCleared := by
  refine fun s source row n h => ⟨fun above every => ?_, fun named => ?_⟩
  · refine h.refused ?_
    show takeClearShortfall n [row] s.taking = _
    exact if_pos (rowRefused above every)
  · refine ⟨_, h.answered (takeClearShortfall_eq named n) rfl, keepsBut_answered (by simp) keepsBut_of _ _, rfl, fun c => ?_, ?_⟩
    · rw [← clearedRecord]
      exact Table.get_ofFn_eq (d := 8) (f := fun c : Fin 256 =>
        if cleared s.taking row.toNat c then { s.lau.cells.get c with shortfall := false } else s.lau.cells.get c) rfl rfl c
    · have same : cleared s.taking row.toNat = fun c => decide (row = 0xFF ∨ (rowOf c).val = row.toNat) && (s.lau.cells.get c).shortfall :=
        funext fun c => congrArg (· && _) (Bool.eq_iff_iff.mpr ((rowNamed_iff row (rowOf c)).trans decide_eq_true_iff.symm))
      rw [answered_zbi, same]
      rfl

/-! ### Clamps -/

theorem clamp_eq (f : Field) (v : Nat) : f.clamp v =
    match f with
    | .present => if v = 0 then 0 else 1
    | .efficacy => if v = 0 then 1 else if 4000 < v then 4000 else v
    | .floor => if 1000 < v then 1000 else v
    | .target => if 2000 < v then 2000 else v
    | .profile => if 7 < v then 7 else v
    | .classByte => v
    | .facade => if 15 < v then 15 else v := by
  cases f <;> dsimp only [Field.clamp] <;> (try split_ifs) <;> omega

/-- Settles O32. -/
theorem fieldsAreClamped : Obligations.FieldsAreClamped := by
  refine ⟨clamp_eq, fun v k => ⟨?present, ?efficacy, ?floor, ?target, ?profile, fun byte => ?classByte, ?facade, rfl, rfl, rfl⟩⟩
  case present =>
    have yes : (Field.present.clamp v = 1) = (v ≠ 0) := by rw [clamp_eq]; by_cases h : v = 0 <;> simp [h]
    simp only [Field.write, yes]
  case efficacy => simp only [Field.write, clamp_eq]
  case floor => simp only [Field.write, clamp_eq]
  case target => simp only [Field.write, clamp_eq]
  case profile =>
    show (min v 7) % 8 = _
    split <;> omega
  case classByte =>
    show v % 256 = v
    omega
  case facade =>
    show (min v 15) % 16 = _
    split <;> omega

/-! ### WRITE ROW -/

/-- WRITE ROW, where its operand names a row (R15). -/
theorem takeRow_eq {s : State} {p : List Byte} (h : byteAt p 0 ≤ 7) (n : Fin 8) :
    takeRow n p s =
      .doneOr (s.writeRow (Fin.ofNat 8 (byteAt p 0)) (min (halfAt p 1) 10000) (min (halfAt p 3) 1000))
        (decide (10000 < halfAt p 1) || decide (1000 < halfAt p 3)) := if_neg (by omega)

/-- The held bases of other rows are not touched by a freeze. -/
theorem freezeRow_held_ne (s : State) {r : Fin 8} {c : Fin 256} (h : rowOf c ≠ r) : (s.freezeRow r).ct.held.get c = s.ct.held.get c := by
  rw [freezeRow_held, if_neg fun picked => h picked.2.1]

/-- With SHED pending and the latch set, a prompt leaves it pending or, on a link that was idle, in flight (R133, R136). -/
theorem prompt_inHand {s : State} (latch : s.fsc.latch = true) (pending : s.llc.pendingShed = true) :
    s.prompt.llc.pendingShed = true ∨
      ∃ f, s.prompt.llc.flight = some f ∧ f.frame = .shed (s.ct.rows.map RowRecord.shedLevel) := by
  by_cases idle : s.llc.state = .run ∧ s.llc.flight = none
  · rw [prompt_idle idle.1 idle.2, select_eq, if_pos (by simp [latch, pending])]
    exact .inr ⟨_, rfl, rfl⟩
  · rw [prompt_busy idle]
    exact .inl pending

theorem raiseShed_inHand {s : State} (latch : s.fsc.latch = true) :
    s.raiseShed.llc.pendingShed = true ∨
      ∃ f, s.raiseShed.llc.flight = some f ∧ f.frame = .shed (s.ct.rows.map RowRecord.shedLevel) :=
  prompt_inHand (s := s.setLlc { s.llc with pendingShed := true }) latch rfl

section
variable (s : State) (r : Fin 8) (factor shed : Nat)

/-- The clamp of the row's fade levels under a set latch (R16). -/
theorem writeRow_levels (c : Fin 256) :
    (s.writeRow r factor shed).fdu.levels.get c =
      if (s.fsc.latch = true ∧ shed ≠ (s.ct.rows.get r).shedLevel) ∧ rowOf c = r ∧ s.ct.present c = true then
        (s.fdu.levels.get c).map fun v => min v shed
      else s.fdu.levels.get c := by
  have present : (s.rowStored r factor shed).ct.present = s.ct.present := present_of_cells (rowStored_cells s r factor shed)
  have fdu : (s.rowStored r factor shed).fdu = s.fdu := by simp [rowStored]
  by_cases clamps : s.fsc.latch = true ∧ shed ≠ (s.ct.rows.get r).shedLevel
  · rw [writeRow_eq, if_pos clamps, raiseShed_fdu, clampFades_levels, present, fdu]
    by_cases own : rowOf c = r
    · have level : (s.rowStored r factor shed).ct.shedLevelOf c = shed := by
        rw [CellTable.shedLevelOf, rowStored_rows, if_pos own.symm]
      simp [clamps, own, level]
    · simp [own]
  · rw [writeRow_eq, if_neg clamps, if_neg fun picked => clamps picked.1, fdu]

theorem writeRow_fades :
    (s.writeRow r factor shed).fdu.profiles = s.fdu.profiles ∧ (s.writeRow r factor shed).fdu.timer = s.fdu.timer := by
  rw [writeRow_eq]
  split <;> simp [rowStored]

/-- Without a clamp a WRITE ROW touches neither fade levels nor the link. -/
theorem writeRow_of_kept (h : ¬(s.fsc.latch = true ∧ shed ≠ (s.ct.rows.get r).shedLevel)) :
    (s.writeRow r factor shed).fdu = s.fdu ∧ (s.writeRow r factor shed).llc = s.llc := by
  rw [writeRow_eq, if_neg h]
  simp [rowStored]

/-- With a clamp the SHED frame is pending, or in flight at once, with the new shed level (R16, R136). -/
theorem writeRow_of_clamp (h : s.fsc.latch = true ∧ shed ≠ (s.ct.rows.get r).shedLevel) :
    (s.writeRow r factor shed).llc.pendingShed = true ∨
      ∃ f, (s.writeRow r factor shed).llc.flight = some f ∧
        f.frame = .shed ((s.writeRow r factor shed).ct.rows.map RowRecord.shedLevel) := by
  rw [writeRow_ct, writeRow_eq, if_pos h]
  exact raiseShed_inHand (by simpa [rowStored] using h.1)

end

/-- Settles O36. -/
theorem rowWritten : Obligations.RowWritten := by
  refine fun s source p n h => ⟨fun above => ?refused, fun named => ?taken⟩
  case refused =>
    refine h.refused ?_
    show takeRow n p s.taking = _
    exact if_pos above
  intro row factor level clamps
  refine ⟨_, h.answered (takeRow_eq named n) (writeRow_zbi _ _ _ _), keepsBut_answered (by simp) keepsBut_of _ _, ?cells, fun c other => ?held,
    fun r => ?rows, writeRow_levels s.taking row factor level, (writeRow_fades s.taking row factor level).1,
    (writeRow_fades s.taking row factor level).2, writeRow_of_kept s.taking row factor level, writeRow_of_clamp s.taking row factor level, ?reply⟩
  case cells => rw [answered_ct, writeRow_ct, rowStored_cells, taking_ct]
  case held => rw [answered_ct, writeRow_ct, rowStored_held, freezeRow_held_ne _ other, taking_ct]
  case rows =>
    rw [answered_ct, writeRow_ct, rowStored_rows]
    exact if_congr eq_comm rfl rfl
  case reply => simp

end Sys2Proof.Proofs.Calibration
end

section
/-! PROOF. WRITE CELL FIELD: its operands, its run, what presence carries with it, and the held bases (O33, O34, O35). -/

namespace Sys2Proof.Proofs.CellField

open Sys2Proof.Machine Sys2Proof.Machine.State Sys2Proof.Proofs.Effects Sys2Proof.Proofs.Idle Sys2Proof.Proofs.Listed
  Sys2Proof.Proofs.Fitted Sys2Proof.Proofs.Calibration

/-! ### The operands -/

theorem ofCode_eq_some (code : Nat) (f : Field) : Field.ofCode code = some f ↔ code =
    match f with
    | .present => 0 | .efficacy => 1 | .floor => 2 | .target => 3 | .profile => 4 | .classByte => 5 | .facade => 6 := by
  constructor
  · intro named
    unfold Field.ofCode at named
    split at named <;> cases named <;> rfl
  · rintro rfl
    cases f <;> rfl

theorem ofCode_eq_none {code : Nat} (h : 6 < code) : Field.ofCode code = none := by
  cases named : Field.ofCode code with
  | none => rfl
  | some f =>
    have := (ofCode_eq_some code f).mp named
    cases f <;> simp only at this <;> omega

theorem wide_iff {code : Nat} {f : Field} (h : Field.ofCode code = some f) : f.wide = true ↔ code = 1 ∨ code = 2 ∨ code = 3 := by
  rw [(ofCode_eq_some code f).mp h]
  cases f <;> simp [Field.wide]

/-- The 16-bit quantities of a list of bytes, one after another. -/
theorem wideValues_eq (l : List Byte) :
    wideValues l = (List.range (l.length / 2)).map fun i => byteAt l (2 * i) * 256 + byteAt l (2 * i + 1) := by
  induction l using wideValues.induct with
  | case1 hi lo rest ih =>
    have half : (hi :: lo :: rest).length / 2 = rest.length / 2 + 1 := by simp only [List.length_cons]; omega
    rw [wideValues, half, List.range_succ_eq_map, List.map_cons, List.map_map, ih]
    rfl
  | case2 l short =>
    rw [wideValues]
    · match l, short with
      | [], _ => rfl
      | [_], _ => simp
      | hi :: lo :: rest, short => exact absurd rfl (short hi lo rest)
    · exact short

theorem narrowValues_eq (l : List Byte) : l.map BitVec.toNat = (List.range l.length).map (byteAt l) := by
  refine List.ext_getElem (by simp) fun i inside _ => ?_
  have : i < l.length := by simpa using inside
  simp [byteAt, this]

theorem byteAt_drop (l : List Byte) (n i : Nat) : byteAt (l.drop n) i = byteAt l (n + i) := by
  simp [byteAt]

/-- The first value is the fill, the others the list (R12). -/
theorem fillThenList {m : Nat} (h : 1 ≤ m) (g : Nat → Nat) :
    (((List.range m).map g).getD 0 0, ((List.range m).map g).drop 1) = (g 0, (List.range (m - 1)).map fun i => g (i + 1)) := by
  obtain ⟨m, rfl⟩ := Nat.exists_eq_add_of_le' h
  simp [List.range_succ_eq_map, Function.comp_def]

/-- A value of a WRITE CELL FIELD, the fill at 0 and the list from 1 on: 16 bits wide, or 8 (R12). -/
def value (p : List Byte) (wide : Prop) [Decidable wide] (i : Nat) : Nat :=
  if wide then byteAt p (4 + 2 * i) * 256 + byteAt p (5 + 2 * i) else byteAt p (4 + i)

theorem fieldValues_eq {f : Field} {p : List Byte} (format : Request.admits .writeCellField p = true)
    (named : Field.ofCode (byteAt p 3) = some f) :
    fieldValues f (p.drop 4) =
      let wide := byteAt p 3 = 1 ∨ byteAt p 3 = 2 ∨ byteAt p 3 = 3
      (value p wide 0, (List.range (if wide then (p.length - 6) / 2 else p.length - 5)).map fun i => value p wide (i + 1)) := by
  by_cases wide : byteAt p 3 = 1 ∨ byteAt p 3 = 2 ∨ byteAt p 3 = 3
  · have fits : 6 ≤ p.length := by
      rw [Request.admits, if_pos (by omega)] at format
      simp only [Bool.and_eq_true, decide_eq_true_eq] at format
      exact format.1.1
    simp only [fieldValues, (wide_iff named).mpr wide, wide, if_true, value]
    rw [wideValues_eq, fillThenList (by rw [List.length_drop]; omega), List.length_drop]
    simp only [byteAt_drop]
    rw [show (p.length - 4) / 2 - 1 = (p.length - 6) / 2 by omega]
    simp only [show ∀ i, 4 + (2 * i + 1) = 5 + 2 * i by omega]
  · have fits : 5 ≤ p.length := by
      rw [Request.admits, if_neg (by omega)] at format
      simp only [Bool.and_eq_true, decide_eq_true_eq] at format
      exact format.1
    have narrow : f.wide = false := Bool.eq_false_iff.mpr fun w => wide ((wide_iff named).mp w)
    simp only [fieldValues, narrow, wide, value]
    simp only [Bool.false_eq_true, if_false]
    rw [narrowValues_eq, fillThenList (by rw [List.length_drop]; omega), List.length_drop]
    simp only [byteAt_drop]
    rw [show p.length - 4 - 1 = p.length - 5 by omega]

/-- The write that a payload asks for, its operands as the catalogue spells them (R11, R12). -/
def spelled (p : List Byte) (f : Field) : CellWrite :=
  let wide := byteAt p 3 = 1 ∨ byteAt p 3 = 2 ∨ byteAt p 3 = 3
  { row := Fin.ofNat 8 (byteAt p 0), start := byteAt p 1, count := byteAt p 2, field := f, fill := value p wide 0,
    list := (List.range (if wide then (p.length - 6) / 2 else p.length - 5)).map fun i => value p wide (i + 1) }

theorem cellWrite_eq {p : List Byte} {f : Field} (format : Request.admits .writeCellField p = true) (row : byteAt p 0 ≤ 7)
    (start : byteAt p 1 ≤ 31) (few : 1 ≤ byteAt p 2) (many : byteAt p 2 ≤ 32) (named : Field.ofCode (byteAt p 3) = some f) :
    cellWrite p = some (spelled p f) := by
  rw [cellWrite, if_neg (by omega), named, Option.map_some, fieldValues_eq format named]
  rfl

theorem cellWrite_eq_none {p : List Byte}
    (h : 7 < byteAt p 0 ∨ 31 < byteAt p 1 ∨ byteAt p 2 = 0 ∨ 32 < byteAt p 2 ∨ 6 < byteAt p 3) : cellWrite p = none := by
  rw [cellWrite]
  split
  · rfl
  · rw [ofCode_eq_none (by omega), Option.map_none]

/-- A write that is taken has operands within their limits. -/
theorem limits_of_cellWrite {p : List Byte} {w : CellWrite} (h : cellWrite p = some w) :
    byteAt p 0 ≤ 7 ∧ w.row = Fin.ofNat 8 (byteAt p 0) ∧ Field.ofCode (byteAt p 3) = some w.field := by
  rw [cellWrite] at h
  split at h
  · cases h
  · obtain ⟨f, named, rfl⟩ := Option.map_eq_some_iff.mp h
    exact ⟨by omega, rfl, named⟩

/-! ### WRITE CELL FIELD -/

/-- The blocks a WRITE CELL FIELD leaves. -/
theorem keepsBut_apply (w : CellWrite) (s : State) : s.keepsBut [.ct, .rlu, .lau, .fdu, .llc] (w.apply s) := by
  have written : s.keepsBut [.ct, .rlu, .lau, .fdu, .llc] (w.written s) := by
    unfold CellWrite.written; exact keepsBut_of
  rw [CellWrite.apply_eq]
  split
  · exact keepsBut_trans written keepsBut_of
  · exact written

theorem keepsBut_mono {s t : State} {l m : List Block} (h : s.keepsBut l t) (sub : l ⊆ m) : s.keepsBut m t :=
  fun b kept => h b fun mem => kept (sub mem)

/-- A WRITE CELL FIELD that is taken: the write, the status and the list result (R11 to R14). -/
theorem takeCellField_eq {p : List Byte} {w : CellWrite} (h : cellWrite p = some w) (n : Fin 8) (s : State) :
    takeCellField n p s =
      { state := w.apply s, status := if w.clamped then .doneClamped else .done,
        data := [w.listResult, BitVec.ofNat 8 w.cells] } := by
  rw [takeCellField, h]

theorem takeCellField_refused {p : List Byte} (h : cellWrite p = none) (n : Fin 8) (s : State) :
    takeCellField n p s = .refuse s .refusedFormat := by
  rw [takeCellField, h]

/-- A write leaves the records outside its row as they are. -/
theorem record_of_other {w : CellWrite} {c : Fin 256} (h : rowOf c ≠ w.row) (old : Calibration) : w.record c old = old := by
  rw [CellWrite.record, if_neg (by simp [CellWrite.writes, h])]

theorem written_present (w : CellWrite) (s : State) (c : Fin 256) :
    (w.written s).ct.present c = (w.record c (s.ct.cells.get c)).present :=
  congrArg Calibration.present (w.written_record s c)

/-- The held base of a cell whose presence the write leaves is as the freeze leaves it (R17). -/
theorem written_held_kept {w : CellWrite} {s : State} {c : Fin 256} (h : (w.written s).ct.present c = s.ct.present c) :
    (w.written s).ct.held.get c = (s.freezeRow w.row).ct.held.get c := by
  rw [CellWrite.written_held, h]
  cases s.ct.present c <;> simp

/-- Settles O33. -/
theorem cellFieldWritten : Obligations.CellFieldWritten := by
  refine ⟨ofCode_eq_some, fun s source p n h => ⟨fun bad => ?refused, fun f row start few many named => ?taken⟩⟩
  case refused => exact h.refused (takeCellField_refused (cellWrite_eq_none bad) n s.taking)
  intro row start count wide value fill list
  have w := cellWrite_eq h.format ‹_› ‹_› few many named
  refine ⟨_, h.answered (takeCellField_eq w n s.taking) (CellWrite.apply_zbi _ _), ?frame, fun c => ?cells, fun r => ?rows, fun c other => ?held, ?reply⟩
  case frame => exact keepsBut_answered (by simp) (keepsBut_mono (keepsBut_apply _ _) (by simp)) _ _
  case cells =>
    rw [answered_ct, CellWrite.apply_ct, CellWrite.written_record, CellWrite.record]
    refine if_congr ?_ rfl rfl
    simp only [CellWrite.writes, Bool.and_eq_true, decide_eq_true_eq, and_assoc]
    rfl
  case rows =>
    rw [answered_ct, CellWrite.apply_ct, CellWrite.written_rows, freezeRow_rows]
    by_cases own : (spelled p f).row = r
    · subst own
      rw [if_pos rfl]
      exact (if_pos rfl).symm
    · rw [if_neg own]
      exact (if_neg (Ne.symm own)).symm
  case held =>
    have present : ((spelled p f).written s.taking).ct.present c = s.ct.present c := by
      rw [written_present, record_of_other other]
      rfl
    rw [answered_ct, CellWrite.apply_ct, written_held_kept present]
    exact freezeRow_held_ne _ other
  case reply =>
    have clamped : (spelled p f).clamped = true ↔
        (count < byteAt p 2 ∨ ∃ i ∈ List.range count, f.clamp (list.getD i fill) ≠ list.getD i fill) := by
      simp only [CellWrite.clamped, Bool.or_eq_true, List.any_eq_true, decide_eq_true_eq]
      rfl
    rw [answered_zbi, if_congr clamped rfl rfl]
    rfl

/-! ### Presence -/

/-- What follows from a change of presence in the other blocks (R5, R87, R117, R142). -/
structure PresenceActed (s t : State) : Prop where
  cells : ∀ c : Fin 256,
    (s.ct.present c = true → t.ct.present c = false →
      t.fdu.levels.get c = none ∧ t.llc.taken.get c = none ∧ t.ct.held.get c = none ∧ t.lau.cells.get c = .cleared) ∧
    (s.ct.present c = false → t.ct.present c = true →
      t.fdu.levels.get c = none ∧ t.llc.taken.get c = none ∧ t.ct.held.get c = some (t.ct.cells.get c).floor ∧
        t.lau.cells.get c = .cleared) ∧
    (s.ct.present c = t.ct.present c →
      t.fdu.levels.get c = s.fdu.levels.get c ∧ t.llc.taken.get c = s.llc.taken.get c ∧ t.lau.cells.get c = s.lau.cells.get c)
  ages : ∀ r : Fin 8,
    t.llc.ages.get r = if t.ct.configured r = false then none else if s.ct.configured r = false then some 0 else s.llc.ages.get r
  queue : t.llc.queue = s.llc.queue.filter t.ct.configured

/-- The list agrees with the new grid (R80). -/
structure ListAgrees (s t : State) : Prop where
  list : t.rlu.list = s.rlu.list.map fun e => { e with coverage := t.ct.coverage e.selector }
  timer : t.rlu.timer = s.rlu.timer
  resolved : ∀ c : Fin 256, t.rlu.resolved.get c = resolve t.ct t.rlu.list c

theorem ages_fitted {s : State} (fitted : s.Fitted) (run : s.llc.state = .run) (r : Fin 8) :
    s.llc.ages.get r = if s.ct.configured r = false then none else if s.ct.configured r = false then some 0 else s.llc.ages.get r := by
  have iff := fitted.ages (by simp [run]) r
  cases configured : s.ct.configured r with
  | true => simp
  | false => simpa [configured] using iff

theorem queue_fitted {s : State} (fitted : s.Fitted) : s.llc.queue = s.llc.queue.filter s.ct.configured :=
  (List.filter_eq_self.mpr fitted.queued).symm

theorem presenceActed_self {s : State} (fitted : s.Fitted) (run : s.llc.state = .run) : PresenceActed s s :=
  { cells := fun c => ⟨fun yes no => absurd yes (by simp [no]), fun no yes => absurd yes (by simp [no]), fun _ => ⟨rfl, rfl, rfl⟩⟩
    ages := ages_fitted fitted run
    queue := queue_fitted fitted }

theorem listAgrees_of_same {s t : State} (listed : s.Listed) (covers : t.ct.covers = s.ct.covers) (rlu : t.rlu = s.rlu) : ListAgrees s t := by
  refine ⟨?_, by rw [rlu], fun c => by rw [rlu, resolve_congr covers, listed.records]⟩
  rw [rlu, coverage_congr covers]
  conv_lhs => rw [← List.map_id s.rlu.list]
  exact List.map_congr_left fun e mem => by rw [id, ← listed.counts e mem]

/-- Presence changes only in the row written, which is then FROZEN (R17). -/
theorem frozen_of_changed {w : CellWrite} {s : State} {c : Fin 256} (h : (w.written s).ct.present c ≠ s.ct.present c) :
    (w.written s).ct.frozenCell c = true := by
  have own : rowOf c = w.row := by
    by_contra other
    exact h (by rw [written_present, record_of_other other]; rfl)
  show (s.freezeRow w.row).ct.rowFrozen (rowOf c) = true
  rw [rowFrozen_freezeRow, if_pos own.symm]

theorem presenceActed_written {s : State} (fitted : s.Fitted) (w : CellWrite) : PresenceActed s (w.written s) := by
  refine ⟨fun c => ⟨fun was now => ?gone, fun was now => ?come, fun same => ?same⟩, w.written_ages s, by rw [w.written_llc]⟩
  case gone => simp [w.written_levels, w.written_taken, w.written_held, w.written_lau, was, now]
  case come =>
    have frozen := frozen_of_changed (w := w) (s := s) (c := c) (by simp [was, now])
    simp [w.written_levels, w.written_taken, w.written_held, w.written_lau, was, now, fitted.levels c was, fitted.taken c was, frozen]
  case same => simp [w.written_levels, w.written_taken, w.written_lau, ← same]

theorem presenceActed_apply {s : State} (fitted : s.Fitted) (w : CellWrite) : PresenceActed s (w.apply s) := by
  have acted := presenceActed_written fitted w
  rw [CellWrite.apply_eq]
  split
  · exact ⟨acted.cells, acted.ages, acted.queue⟩
  · exact acted

/-- A frame in flight is unstaged for no cell where none is gone (log 7). -/
theorem unstage_of_none {gone : Fin 256 → Bool} (h : ∀ c, gone c = false) (f : Flight) : unstage gone f = f := by
  unfold unstage
  split
  · next r first bays frame =>
    simp only [h, Bool.false_eq_true, if_false]
    have same : bays.mapIdx (fun _ b => b) = bays := List.ext_getElem (by simp) (by simp)
    rw [same, ← frame]
  all_goals rfl

/-- A write of another field than the present one touches no LAU record, no fade level and nothing of the link. -/
theorem written_of_present {s : State} (fitted : s.Fitted) (run : s.llc.state = .run) {w : CellWrite} (h : w.field ≠ .present) :
    (w.written s).lau = s.lau ∧ (w.written s).fdu = s.fdu ∧ (w.written s).llc = s.llc := by
  have present : (w.written s).ct.present = s.ct.present := by
    funext c
    rw [written_present, w.record_present h]
    rfl
  have configured : (w.written s).ct.configured = s.ct.configured := by
    funext r
    rw [CellTable.configured, CellTable.configured, present]
  have acted := presenceActed_written fitted w
  have cells (c : Fin 256) := (acted.cells c).2.2 (by rw [present])
  have lau : (w.written s).lau.cells = s.lau.cells := Table.ext_get (n := 256) rfl fun c => (cells c).2.2
  have levels : (w.written s).fdu.levels = s.fdu.levels := Table.ext_get (n := 256) rfl fun c => (cells c).1
  have taken : (w.written s).llc.taken = s.llc.taken := Table.ext_get (n := 256) rfl fun c => (cells c).2.1
  have ages : (w.written s).llc.ages = s.llc.ages := Table.ext_get (n := 8) rfl fun r => by
    rw [acted.ages r, configured, ← ages_fitted fitted run]
  have flight : s.llc.flight.map (unstage (w.gone s)) = s.llc.flight := by
    have none (c : Fin 256) : w.gone s c = false := by simp [CellWrite.gone, present]
    cases s.llc.flight with
    | none => rfl
    | some f => rw [Option.map_some, unstage_of_none none]
  refine ⟨?_, ?_, ?_⟩
  · have mode := w.written_mode s
    rcases h : (w.written s).lau with ⟨cells, m⟩
    simp_all
  · obtain ⟨profiles, timer⟩ := w.written_fdu s
    rcases h : (w.written s).fdu with ⟨levels, profiles, timer⟩
    simp_all
  · rw [w.written_llc, taken, ages, configured, ← queue_fitted fitted, flight]

/-- The RLU after a WRITE CELL FIELD agrees with the grid, notified or not (R14, R80). -/
theorem listAgrees_apply {s : State} (listed : s.Listed) (w : CellWrite) : ListAgrees s (w.apply s) := by
  by_cases notified : w.notifies s.ct = true
  · rw [CellWrite.apply_eq, if_pos notified]
    exact ⟨by rw [regrid_list, CellWrite.written_rlu]; rfl, by rw [regrid_timer, CellWrite.written_rlu], fun c => regrid_resolved _ c⟩
  · rw [CellWrite.apply_eq, if_neg notified]
    exact listAgrees_of_same listed (covers_of_not_notifies notified) (w.written_rlu s)

theorem apply_rlu_of_field {w : CellWrite} (present : w.field ≠ .present) (classByte : w.field ≠ .classByte) (s : State) :
    (w.apply s).rlu = s.rlu := by
  rw [CellWrite.apply_eq, if_neg (by simp [CellWrite.notifies, present, classByte]), CellWrite.written_rlu]

/-- The field that a field code names. -/
theorem field_ne_of_code {code : Nat} {f : Field} (named : Field.ofCode code = some f) :
    (code ≠ 0 → f ≠ .present) ∧ (code ≠ 5 → f ≠ .classByte) := by
  rw [(ofCode_eq_some code f).mp named]
  cases f <;> simp

/-- Settles O34. -/
theorem presenceChangesAtOnce : Obligations.PresenceChangesAtOnce := by
  intro s t source p n h fitted run step
  cases named : cellWrite p with
  | none =>
    rw [show exec (.writeCellField source p) s = _ from h.refused (takeCellField_refused named n s.taking)] at step
    cases step
    have acted := presenceActed_self fitted run
    have agrees (listed : s.Listed) := listAgrees_of_same listed rfl rfl
    exact ⟨acted.cells, acted.ages, acted.queue, fun _ => ⟨rfl, rfl, rfl⟩,
      fun _ listed => ⟨(agrees listed).list, (agrees listed).timer, (agrees listed).resolved⟩, fun _ _ => rfl⟩
  | some w =>
    rw [show exec (.writeCellField source p) s = _ from h.answered (takeCellField_eq named n s.taking) (CellWrite.apply_zbi _ _)] at step
    cases step
    obtain ⟨_, _, code⟩ := limits_of_cellWrite named
    obtain ⟨present, classByte⟩ := field_ne_of_code code
    have fitted' : s.taking.Fitted := fitted_same fitted rfl rfl rfl rfl
    have acted : PresenceActed s.taking (w.apply s.taking) := presenceActed_apply fitted' w
    have agrees (listed : s.Listed) : ListAgrees s.taking (w.apply s.taking) :=
      listAgrees_apply (s := s.taking) (listed_congr listed rfl rfl rfl rfl) w
    refine ⟨acted.cells, acted.ages, acted.queue, fun other => ?_,
      fun _ listed => ⟨(agrees listed).list, (agrees listed).timer, (agrees listed).resolved⟩, fun other another => ?_⟩
    · simp only [answered_fdu, answered_lau, answered_llc, w.apply_fdu, w.apply_lau, w.apply_llc]
      exact written_of_present fitted' run (present other)
    · exact apply_rlu_of_field (present other) (classByte another) s.taking

/-! ### Held bases -/

/-- The freeze that a taken write of a row brings: the row FROZEN, and a held base captured only where it was LIVE (R17, R19). -/
structure Captures (s t : State) (r : Fin 8) : Prop where
  frozen : t.ct.rowFrozen r = true
  held : ∀ x : Fin 256, rowOf x = r → s.ct.present x = true → t.ct.present x = true →
    t.ct.held.get x =
      if s.ct.rowFrozen r = true then s.ct.held.get x else some (((s.lau.cells.get x).lastBase).getD (s.ct.cells.get x).floor)

theorem freezeRow_captures {s : State} {x : Fin 256} (present : s.ct.present x = true) :
    (s.freezeRow (rowOf x)).ct.held.get x =
      if s.ct.rowFrozen (rowOf x) = true then s.ct.held.get x
      else some (((s.lau.cells.get x).lastBase).getD (s.ct.cells.get x).floor) := by
  rw [freezeRow_held]
  cases s.ct.rowFrozen (rowOf x) <;> simp [present]

theorem captures_cells (w : CellWrite) (s : State) : Captures s (w.apply s) w.row := by
  refine ⟨?_, fun x own was now => ?_⟩
  · rw [w.apply_ct]
    show (s.freezeRow w.row).ct.rowFrozen w.row = true
    rw [rowFrozen_freezeRow, if_pos rfl]
  · rw [w.apply_ct] at now ⊢
    rw [written_held_kept (now.trans was.symm), ← own, freezeRow_captures was]

theorem captures_row (s : State) (r : Fin 8) (factor shed : Nat) : Captures s (s.writeRow r factor shed) r := by
  refine ⟨?_, fun x own was _ => ?_⟩
  · rw [writeRow_ct, CellTable.rowFrozen, rowStored_rows, if_pos rfl]
  · rw [writeRow_ct, rowStored_held, ← own, freezeRow_captures was]

/-- What a row's write or a cell field's write has captured, where it was taken. -/
theorem captures_of_taken {c : Instr} {s t : State} {source : Byte} {p : List Byte} {n : Fin 8}
    (taken : (c = .writeRow source p ∧ s.Takes .writeRow source p n) ∨ (c = .writeCellField source p ∧ s.Takes .writeCellField source p n))
    (step : exec c s = .next t) : t.ct = s.ct ∨ (byteAt p 0 ≤ 7 ∧ Captures s t (Fin.ofNat 8 (byteAt p 0))) := by
  rcases taken with ⟨rfl, h⟩ | ⟨rfl, h⟩
  · by_cases above : 7 < byteAt p 0
    · obtain rfl : t = _ := by simpa [(rowWritten s source p n h).1 above] using step.symm
      exact .inl rfl
    · have row : exec (.writeRow source p) s = _ := h.answered (takeRow_eq (by omega) n) (writeRow_zbi _ _ _ _)
      obtain rfl : t = _ := by simpa [row] using step.symm
      have captured := captures_row s.taking (Fin.ofNat 8 (byteAt p 0)) (min (halfAt p 1) 10000) (min (halfAt p 3) 1000)
      exact .inr ⟨by omega, captured.frozen, captured.held⟩
  · cases named : cellWrite p with
    | none =>
      have refused : exec (.writeCellField source p) s = _ := h.refused (takeCellField_refused named n s.taking)
      obtain rfl : t = _ := by simpa [refused] using step.symm
      exact .inl rfl
    | some w =>
      have row : exec (.writeCellField source p) s = _ := h.answered (takeCellField_eq named n s.taking) (CellWrite.apply_zbi _ _)
      obtain rfl : t = _ := by simpa [row] using step.symm
      obtain ⟨small, own, _⟩ := limits_of_cellWrite named
      have captured := captures_cells w s.taking
      rw [own] at captured
      exact .inr ⟨small, captured.frozen, captured.held⟩

/-- Settles O35. -/
theorem freezeCapturesHeldBases : Obligations.FreezeCapturesHeldBases := by
  intro c s t source p n taken step changed x own was now
  obtain ⟨small, captured⟩ := (captures_of_taken taken step).resolve_left changed
  have row : rowOf x = Fin.ofNat 8 (byteAt p 0) := Fin.ext (own.trans (Nat.mod_eq_of_lt (by omega)).symm)
  rw [row]
  exact ⟨captured.frozen, captured.held x row was now⟩

end Sys2Proof.Proofs.CellField
end

section
/-! PROOF. The releases and the list's one-second timer (O30, O31), and the eviction search (O28). -/

namespace Sys2Proof.Proofs.Releases

open Sys2Proof.Machine Sys2Proof.Machine.State Sys2Proof.Proofs.Idle Sys2Proof.Proofs.Listed Sys2Proof.Proofs.Calibration

/-! ### The releases -/

/-- The reply to a release spells what left the list by the two lists (R72 to R74). -/
theorem releaseEntries_eq (s : State) (p : Entry → Bool) :
    releaseEntries s p =
      { state := s.removeEntries p,
        status := if (s.rlu.list.filter fun e => !p e) = s.rlu.list then .doneNothing else .done,
        data := [BitVec.ofNat 8 (s.rlu.list.length - (s.rlu.list.filter fun e => !p e).length),
          BitVec.ofNat 8 (s.rlu.list.filter fun e => !p e).length] } := by
  have split := List.length_eq_countP_add_countP p (l := s.rlu.list)
  have kept : (s.rlu.list.filter fun e => !p e).length = s.rlu.list.countP fun e => ¬p e = true := by
    rw [← List.countP_eq_length_filter]
    exact List.countP_congr (by simp)
  have nothing : s.rlu.list.countP p = 0 ↔ (s.rlu.list.filter fun e => !p e) = s.rlu.list := by
    rw [List.countP_eq_zero, List.filter_eq_self]
    simp
  have removed : s.rlu.list.countP p = s.rlu.list.length - (s.rlu.list.filter fun e => !p e).length := by rw [kept]; omega
  rw [releaseEntries, if_congr nothing rfl rfl, removed]
  rfl

/-- A release on the own address: the entries it picks leave the list, the rest keep their order (R72 to R74, R79). -/
theorem released {s : State} (listed : s.Listed) {k : Request} {source : Byte} {payload : List Byte} {n : Fin 8}
    (h : s.Takes k source payload n) {p : Entry → Bool} (owner : ownerOf k n payload s.taking = releaseEntries s.taking p) :
    ∃ t, request k.code source payload s = .next t ∧ s.keepsBut [.rlu, .zbi] t ∧
      relisted s t (s.rlu.list.filter fun e => !p e) ∧
      t.zbi = repliedWith s.zbi (if t.rlu.list = s.rlu.list then .doneNothing else .done)
        [BitVec.ofNat 8 (s.rlu.list.length - t.rlu.list.length), BitVec.ofNat 8 t.rlu.list.length] := by
  rw [releaseEntries_eq] at owner
  have after : (s.taking.removeEntries p).Listed := listed_removeEntries (s := s.taking) (listed_congr listed rfl rfl rfl rfl) p
  exact ⟨_, h.answered owner rfl, keepsBut_answered (by simp) keepsBut_of _ _, ⟨rfl, rfl, after.records⟩, rfl⟩

/-- Settles O30. -/
theorem releasesRemoveEntries : Obligations.ReleasesRemoveEntries := by
  refine ⟨fun s source tag n h listed => ⟨fun above => ?_, fun small => ?_⟩, fun s source n h listed => ?_,
    fun s source slot n h listed => ⟨fun above => ?_, fun small => ?_⟩⟩
  · exact h.refused (if_pos above)
  · exact released listed h (if_neg (Nat.not_lt.mpr small))
  · exact released listed h rfl
  · exact h.refused (if_pos above)
  · exact released listed h (if_neg (Nat.not_lt.mpr small))

/-! ### The one-second timer -/

/-- An entry ends exactly at the last second of its hold (R75). -/
theorem countDown_isSome {e : Entry} (h : entryOk e) : e.countDown.isSome = !decide (e.hold = some 1) := by
  obtain ⟨_, hold, _⟩ := h
  rw [countDown_eq]
  cases left : e.hold with
  | none => simp
  | some n =>
    have : n ≠ 0 := by rintro rfl; exact hold.1 left
    by_cases last : n = 1
    · simp [last]
    · simp [last, show ¬n ≤ 1 by omega]

/-- Settles O31. -/
theorem listSecondCountsHolds : Obligations.ListSecondCountsHolds := by
  intro s free running ranges
  obtain ⟨n, timer⟩ := Option.isSome_iff_exists.mp running
  have second : s.rluSecond = (s.setRlu { s.rlu with timer := some 0 }).countEntries := by rw [State.rluSecond, timer]
  have list : s.rlu.list.filterMap Entry.countDown =
      (s.rlu.list.filter fun e => !decide (e.hold = some 1)).map fun e => { e with hold := e.hold.map (· - 1) } := by
    rw [filterMap_countDown, List.filter_congr fun e mem => countDown_isSome (ranges.entries e mem)]
    rfl
  refine ⟨s.rluSecond, unlessHeld_free free _, ?_, ?_, ?_, fun c => ?_⟩
  · rw [second]; unfold countEntries; exact keepsBut_of
  · rw [second]; exact list
  · rw [second]; rfl
  · have ended : (((s.rlu.list.filter fun e => e.countDown.isNone).map Entry.selector).any fun sel => s.ct.covers sel c) = true ↔
        ∃ e ∈ s.rlu.list, e.hold = some 1 ∧ s.ct.covers e.selector c = true := by
      simp only [List.any_map, List.any_filter, List.any_eq_true, Function.comp_apply, Bool.and_eq_true]
      refine exists_congr fun e => and_congr_right fun mem => and_congr_left fun _ => ?_
      have := countDown_isSome (ranges.entries e mem)
      rw [← Option.not_isSome, this]
      simp
    rw [second]
    refine (setList_resolved (s.setRlu { s.rlu with timer := some 0 }) _ _ c).trans ?_
    exact if_congr ended rfl rfl

/-! ### Eviction -/

/-- One entry's share in the eviction search. -/
def pickEvict (q : Fin 8) (best : Option Entry) (e : Entry) : Option Entry :=
  if e.kind ≠ .cap ∧ e.priority < q then
    match best with
    | none => some e
    | some b => if e.priority < b.priority then some e else best
  else best

theorem evictionCandidate_eq (q : Fin 8) (l : List Entry) : evictionCandidate q l = l.foldl (pickEvict q) none := rfl

/-- The search so far: nothing of lower priority, or the oldest of the lowest (R68). -/
def Searched (q : Fin 8) (l : List Entry) : Option Entry → Prop
  | none => ∀ f ∈ l, f.kind ≠ .cap → q ≤ f.priority
  | some e => ∃ older newer, l = older ++ e :: newer ∧ e.kind ≠ .cap ∧ e.priority < q ∧
      (∀ f ∈ older, f.kind ≠ .cap → e.priority < f.priority) ∧ ∀ f ∈ newer, f.kind ≠ .cap → e.priority ≤ f.priority

theorem searched_pickEvict {q : Fin 8} {l : List Entry} {best : Option Entry} (h : Searched q l best) (x : Entry) :
    Searched q (l ++ [x]) (pickEvict q best x) := by
  by_cases lower : x.kind ≠ .cap ∧ x.priority < q
  · rw [pickEvict.eq_def, if_pos lower]
    obtain ⟨kind, below⟩ := lower
    cases best with
    | none => exact ⟨l, [], rfl, kind, below, fun f mem cap => lt_of_lt_of_le below (h f mem cap), nofun⟩
    | some b =>
      obtain ⟨older, newer, rfl, bkind, bbelow, bolder, bnewer⟩ := h
      dsimp only
      split
      · next less =>
        refine ⟨_, [], rfl, kind, below, fun f mem cap => ?_, nofun⟩
        rcases List.mem_append.mp mem with old | new
        · exact less.trans (bolder f old cap)
        · rcases List.mem_cons.mp new with rfl | new
          · exact less
          · exact lt_of_lt_of_le less (bnewer f new cap)
      · next notLess =>
        refine ⟨older, newer ++ [x], by simp, bkind, bbelow, bolder, fun f mem cap => ?_⟩
        rcases List.mem_append.mp mem with new | last
        · exact bnewer f new cap
        · obtain rfl : f = x := by simpa using last
          exact not_lt.mp notLess
  · rw [pickEvict.eq_def, if_neg lower]
    have high : x.kind ≠ .cap → q ≤ x.priority := fun cap => not_lt.mp fun below => lower ⟨cap, below⟩
    cases best with
    | none =>
      intro f mem cap
      rcases List.mem_append.mp mem with old | last
      · exact h f old cap
      · obtain rfl : f = x := by simpa using last
        exact high cap
    | some b =>
      obtain ⟨older, newer, rfl, bkind, bbelow, bolder, bnewer⟩ := h
      refine ⟨older, newer ++ [x], by simp, bkind, bbelow, bolder, fun f mem cap => ?_⟩
      rcases List.mem_append.mp mem with new | last
      · exact bnewer f new cap
      · obtain rfl : f = x := by simpa using last
        exact bbelow.le.trans (high cap)

theorem searched (q : Fin 8) (l : List Entry) : Searched q l (evictionCandidate q l) := by
  induction l using List.reverseRecOn with
  | nil => exact fun f mem => absurd mem (by simp)
  | append_singleton l x ih =>
    rw [evictionCandidate_eq, List.foldl_append, List.foldl_cons, List.foldl_nil, ← evictionCandidate_eq]
    exact searched_pickEvict ih x

/-- Settles O28. -/
theorem evictionTakesOldestOfLowest : Obligations.EvictionTakesOldestOfLowest := by
  intro q l
  have found := searched q l
  refine ⟨⟨fun none => by rwa [none] at found, fun high => ?_⟩, fun e candidate => by rwa [candidate] at found⟩
  cases candidate : evictionCandidate q l with
  | none => rfl
  | some e =>
    rw [candidate] at found
    obtain ⟨older, newer, rfl, kind, below, _⟩ := found
    exact absurd (high e (by simp) kind) (not_le.mpr below)

end Sys2Proof.Proofs.Releases
end

section
/-! PROOF. What selectors cover, how they are spelled, and resolution to a winner and a least cap (O29). -/

namespace Sys2Proof.Proofs.Resolution

open Sys2Proof.Machine Sys2Proof.Machine.State Sys2Proof.Proofs.Listed

/-! ### Selectors -/

/-- Two bytes share a set bit exactly when their conjunction is not 0. -/
theorem shares_iff (a m : Byte) : (a &&& m != 0) = true ↔ ∃ g : Fin 8, m.getLsbD g.val = true ∧ a.getLsbD g.val = true := by
  rw [bne_iff_ne]
  constructor
  · intro nonzero
    by_contra none
    refine nonzero (BitVec.eq_of_getLsbD_eq fun i inside => ?_)
    by_contra set
    refine none ⟨⟨i, inside⟩, ?_⟩
    simpa [and_comm] using set
  · rintro ⟨g, hm, ha⟩ zero
    have bit := congrArg (fun v : Byte => v.getLsbD g.val) zero
    rw [BitVec.getLsbD_and, hm, ha] at bit
    simp at bit

theorem covers_iff (t : CellTable) (sel : Selector) (c : Fin 256) : t.covers sel c = true ↔ t.present c = true ∧
    match sel with
    | .all => True
    | .mask m => ∃ g : Fin 8, m.getLsbD g.val = true ∧ (t.cells.get c).classByte.getLsbD g.val = true
    | .rect r0 r1 b0 b1 => r0 ≤ c.val / 32 ∧ c.val / 32 ≤ r1 ∧ b0 ≤ c.val % 32 ∧ c.val % 32 ≤ b1
    | .cell n => c = n := by
  cases sel with
  | all => simp [CellTable.covers]
  | mask m =>
    rw [CellTable.covers, Bool.and_eq_true]
    exact and_congr_right fun _ => shares_iff _ _
  | rect r0 r1 b0 b1 =>
    rw [CellTable.covers, Bool.and_eq_true]
    simp only [Bool.and_eq_true, decide_eq_true_eq, and_assoc]
    exact Iff.rfl
  | cell n => simp [CellTable.covers]

theorem malformed_iff (sel : Selector) : sel.malformed = true ↔
    ∃ r0 r1 b0 b1, sel = .rect r0 r1 b0 b1 ∧ (r1 < r0 ∨ 7 < r1 ∨ b1 < b0 ∨ 31 < b1) := by
  cases sel <;> simp [Selector.malformed, or_assoc]

theorem parseSelector_iff (form : Nat) (params : List Byte) (sel : Selector) : parseSelector form params = some sel ↔
    (form = 0 ∧ params = [] ∧ sel = .all) ∨
    (∃ m, form = 1 ∧ params = [m] ∧ sel = .mask m) ∨
    (∃ r0 r1 b0 b1, form = 2 ∧ params = [r0, r1, b0, b1] ∧ sel = .rect r0.toNat r1.toNat b0.toNat b1.toNat) ∨
    (∃ (n : Byte) (c : Fin 256), form = 3 ∧ params = [n] ∧ c.val = n.toNat ∧ sel = .cell c) := by
  constructor
  · intro parsed
    unfold parseSelector at parsed
    split at parsed <;> cases parsed
    · exact .inl ⟨rfl, rfl, rfl⟩
    · exact .inr (.inl ⟨_, rfl, rfl, rfl⟩)
    · exact .inr (.inr (.inl ⟨_, _, _, _, rfl, rfl, rfl⟩))
    · next n => exact .inr (.inr (.inr ⟨n, _, rfl, rfl, Nat.mod_eq_of_lt n.isLt, rfl⟩))
  · rintro (⟨rfl, rfl, rfl⟩ | ⟨m, rfl, rfl, rfl⟩ | ⟨r0, r1, b0, b1, rfl, rfl, rfl⟩ | ⟨n, c, rfl, rfl, number, rfl⟩)
    · rfl
    · rfl
    · rfl
    · have : Fin.ofNat 256 n.toNat = c := Fin.ext ((Nat.mod_eq_of_lt n.isLt).trans number.symm)
      rw [← this]
      rfl

/-! ### The winner -/

/-- An entry that could govern a cell: a TARGET or FIXED that covers it. -/
abbrev Governs (t : CellTable) (c : Fin 256) (e : Entry) : Prop := e.kind ≠ .cap ∧ t.covers e.selector c = true

theorem pickWinner_of_governs {t : CellTable} {c : Fin 256} {e : Entry} (h : Governs t c e) (best : Option Entry) :
    pickWinner t c best e = some e ∨ ∃ b, best = some b ∧ e.priority < b.priority ∧ pickWinner t c best e = some b := by
  rw [pickWinner.eq_def, if_pos h]
  cases best with
  | none => exact .inl rfl
  | some b =>
    dsimp only
    split
    · exact .inl rfl
    · next above => exact .inr ⟨b, rfl, not_le.mp above, rfl⟩

theorem pickWinner_of_not {t : CellTable} {c : Fin 256} {e : Entry} (h : ¬Governs t c e) (best : Option Entry) :
    pickWinner t c best e = best := by
  rw [pickWinner.eq_def]
  exact if_neg h

/-- A winner so far is of the entries so far, and could govern the cell. -/
theorem winningEntry_mem {t : CellTable} {c : Fin 256} {l : List Entry} {e : Entry} (h : winningEntry t c l = some e) :
    e ∈ l ∧ Governs t c e := by
  revert h
  rw [winningEntry_eq]
  refine List.foldlRecOn (motive := fun best => best = some e → e ∈ l ∧ Governs t c e) l _ nofun fun best found d mem => ?_
  by_cases governs : Governs t c d
  · rcases pickWinner_of_governs governs best with new | ⟨b, rfl, _, old⟩
    · rw [new]; rintro ⟨⟩; exact ⟨mem, governs⟩
    · rw [old]; exact found
  · rw [pickWinner_of_not governs]; exact found

theorem winningEntry_append_one (t : CellTable) (c : Fin 256) (l : List Entry) (e : Entry) :
    winningEntry t c (l ++ [e]) = pickWinner t c (winningEntry t c l) e := by
  rw [winningEntry_eq, List.foldl_append, List.foldl_cons, List.foldl_nil, ← winningEntry_eq]

theorem winningEntry_eq_none {t : CellTable} {c : Fin 256} {l : List Entry} :
    winningEntry t c l = none ↔ ∀ e ∈ l, ¬Governs t c e := by
  induction l using List.reverseRecOn with
  | nil => simp [winningEntry_eq]
  | append_singleton l x ih =>
    rw [winningEntry_append_one]
    simp only [List.mem_append, List.mem_singleton, or_imp, forall_and, forall_eq, ← ih]
    by_cases governs : Governs t c x
    · refine iff_of_false ?_ fun none => none.2 governs
      rcases pickWinner_of_governs governs (winningEntry t c l) with new | ⟨b, _, _, old⟩
      · rw [new]; simp
      · rw [old]; simp
    · rw [pickWinner_of_not governs]
      simp [governs]

/-- The entry that beats the older ones and is not beaten by a newer one wins (R78). -/
theorem winningEntry_of_beats {t : CellTable} {c : Fin 256} {older newer : List Entry} {e : Entry} (governs : Governs t c e)
    (before : ∀ f ∈ older, Governs t c f → f.priority ≤ e.priority) (after : ∀ f ∈ newer, Governs t c f → f.priority < e.priority) :
    winningEntry t c (older ++ e :: newer) = some e := by
  have first : pickWinner t c (winningEntry t c older) e = some e := by
    rcases pickWinner_of_governs governs (winningEntry t c older) with new | ⟨b, found, less, _⟩
    · exact new
    · obtain ⟨mem, bgoverns⟩ := winningEntry_mem found
      exact absurd (before b mem bgoverns) (not_le.mpr less)
  rw [winningEntry_eq, List.foldl_append, List.foldl_cons, ← winningEntry_eq, first]
  refine List.foldlRecOn (motive := fun best => best = some e) newer _ rfl fun best found f mem => ?_
  by_cases fgoverns : Governs t c f
  · rcases pickWinner_of_governs fgoverns best with new | ⟨b, same, _, old⟩
    · subst found
      rw [pickWinner.eq_def, if_pos fgoverns]
      exact if_neg (not_le.mpr (after f mem fgoverns))
    · rw [old, ← same, found]
  · rw [pickWinner_of_not fgoverns, found]

/-! ### The cap -/

/-- The least cap so far: none covers, or one of the least value (R78). -/
def Capped (t : CellTable) (c : Fin 256) (l : List Entry) : Option Nat → Prop
  | none => ∀ e ∈ l, e.kind = .cap → t.covers e.selector c = false
  | some v => (∃ e ∈ l, e.kind = .cap ∧ t.covers e.selector c = true ∧ e.value = v) ∧
      ∀ e ∈ l, e.kind = .cap → t.covers e.selector c = true → v ≤ e.value

theorem capped_pickCap {t : CellTable} {c : Fin 256} {l : List Entry} {best : Option Nat} (h : Capped t c l best) (x : Entry) :
    Capped t c (l ++ [x]) (pickCap t c best x) := by
  have cases_mem {e : Entry} (mem : e ∈ l ++ [x]) : e ∈ l ∨ e = x := by simpa using mem
  by_cases caps : x.kind = .cap ∧ t.covers x.selector c = true
  · rw [pickCap.eq_def, if_pos caps]
    obtain ⟨kind, covers⟩ := caps
    cases best with
    | none =>
      refine ⟨⟨x, by simp, kind, covers, rfl⟩, fun e mem cap covered => ?_⟩
      rcases cases_mem mem with old | rfl
      · exact absurd covered (by simp [h e old cap])
      · exact le_rfl
    | some v =>
      obtain ⟨⟨d, dmem, dcap, dcovers, dvalue⟩, least⟩ := h
      refine ⟨?_, fun e mem cap covered => ?_⟩
      · rcases min_choice v x.value with left | right
        · exact ⟨d, by simp [dmem], dcap, dcovers, dvalue.trans left.symm⟩
        · exact ⟨x, by simp, kind, covers, right.symm⟩
      · rcases cases_mem mem with old | rfl
        · exact (min_le_left _ _).trans (least e old cap covered)
        · exact min_le_right _ _
  · rw [pickCap.eq_def, if_neg caps]
    have uncovered : x.kind = .cap → t.covers x.selector c = false := fun cap => by simpa [cap] using caps
    cases best with
    | none =>
      intro e mem cap
      rcases cases_mem mem with old | rfl
      · exact h e old cap
      · exact uncovered cap
    | some v =>
      obtain ⟨⟨d, dmem, rest⟩, least⟩ := h
      refine ⟨⟨d, by simp [dmem], rest⟩, fun e mem cap covered => ?_⟩
      rcases cases_mem mem with old | rfl
      · exact least e old cap covered
      · exact absurd covered (by simp [uncovered cap])

theorem capped (t : CellTable) (c : Fin 256) (l : List Entry) : Capped t c l (leastCap t c l) := by
  induction l using List.reverseRecOn with
  | nil => exact fun e mem => absurd mem (by simp)
  | append_singleton l x ih =>
    rw [leastCap_eq, List.foldl_append, List.foldl_cons, List.foldl_nil, ← leastCap_eq]
    exact capped_pickCap ih x

/-! ### Resolution -/

theorem resolve_winner (t : CellTable) (l : List Entry) (c : Fin 256) :
    (resolve t l c).winner = match winningEntry t c l with
      | none => .base
      | some e => e.asWinner := rfl

theorem resolve_base_iff (t : CellTable) (l : List Entry) (c : Fin 256) :
    (resolve t l c).winner = .base ↔ ∀ e ∈ l, e.kind ≠ .cap → t.covers e.selector c = false := by
  have none : winningEntry t c l = none ↔ ∀ e ∈ l, e.kind ≠ .cap → t.covers e.selector c = false := by
    rw [winningEntry_eq_none]
    simp [Governs]
  rw [← none, resolve_winner]
  cases found : winningEntry t c l with
  | none => simp
  | some e =>
    obtain ⟨_, cap, _⟩ := winningEntry_mem found
    cases kind : e.kind with
    | cap => exact absurd kind cap
    | _ => simp [Entry.asWinner, kind]

/-- Settles O29. -/
theorem resolutionPicksWinnerAndCap : Obligations.ResolutionPicksWinnerAndCap := by
  refine ⟨covers_iff, fun t sel => List.countP_eq_length_filter, malformed_iff, parseSelector_iff, fun t l c =>
    ⟨resolve_base_iff t l c, ?winner, ⟨fun free => ?_, fun uncovered => ?_⟩, fun v some => ?_, fun absent => ?_⟩⟩
  case winner =>
    rintro older e newer rfl kind covers before after
    rw [resolve_winner, winningEntry_of_beats ⟨kind, covers⟩ (fun f mem governs => before f mem governs.1 governs.2)
      fun f mem governs => after f mem governs.1 governs.2]
    cases named : e.kind <;> simp_all [Entry.asWinner]
  · have found := capped t c l
    rwa [show leastCap t c l = none from free] at found
  · have found := capped t c l
    cases cap : leastCap t c l with
    | none => exact cap
    | some v =>
      rw [cap] at found
      obtain ⟨⟨e, mem, kind, covers, _⟩, _⟩ := found
      exact absurd covers (by simp [uncovered e mem kind])
  · have found := capped t c l
    rwa [show leastCap t c l = Option.some v from some] at found
  · rw [← resolve_covering, List.filter_eq_nil_iff.mpr fun e _ => by simp [CellTable.covers_absent absent], resolve_nil]
    rfl

end Sys2Proof.Proofs.Resolution
end

section
/-! PROOF. NIGHT and DAY (O52); the shed latch, its line and the cut of the frame in flight (O53). -/

namespace Sys2Proof.Proofs.FloorStates

open Sys2Proof.Machine Sys2Proof.Machine.State Sys2Proof.Proofs.Effects Sys2Proof.Proofs.Idle Sys2Proof.Proofs.Sensors

/-! ### NIGHT and DAY -/

/-- A link's timer and rotation once polling is enabled (R26, R39). -/
theorem enablePolling_link (u : SensorLinks) (l : Fin 4) :
    u.enablePolling.timers.get l = (if u.running l then some 0 else none) ∧ u.enablePolling.lastPolled.get l = none :=
  ⟨Table.get_ofFn (d := 2) (fun l : Fin 4 => if u.running l then some 0 else none) l rfl, Table.get_const _ _⟩

theorem leaveStandby_of_standby {s : State} (standby : s.fsc.part = .standby) :
    s.leaveStandby = (s.setFsc { s.fsc with part := .run }).sensorsFromStandby := by simp [leaveStandby, standby]

theorem leaveStandby_of_ne {s : State} (ne : s.fsc.part ≠ .standby) : s.leaveStandby = s := by
  unfold leaveStandby
  split
  · next standby => exact absurd standby ne
  all_goals rfl

/-- Settles O52. -/
theorem nightAndDay : Obligations.NightAndDay := by
  refine ⟨fun s source n h => ⟨fun standby => ?nightAgain, fun run => ?night⟩, fun s source n h => ⟨fun run => ?dayAgain, fun standby => ?day⟩⟩
  case nightAgain =>
    have owner : s.taking.enterStandby = s.taking := enterStandby_of_ne (s := s.taking) (by simp [standby])
    exact h.answered (t := s.taking) (congrArg (Answer.plain · Status.done) owner) rfl
  case night =>
    have run' : s.taking.fsc.part = .run := run
    have entered := enterStandby_of_run run'
    refine ⟨_, h.answered (t := s.taking.enterStandby) rfl (by simp), keepsBut_answered (by simp) keepsBut_of _ _, rfl, ?_⟩
    simp only [answered_fsc, answered_slu, answered_dle]
    refine ⟨by rw [entered]; rfl, by rw [entered]; rfl, by rw [entered]; rfl, by rw [entered]; rfl, fun l => ?_, by rw [entered]; rfl, fun i => ?_⟩
    · rw [entered]
      exact ⟨Table.get_const _ _, Table.get_const _ _⟩
    · rw [enterStandby_sensor run', enterStandby_section run']
      refine ⟨fun present => ⟨if_pos present, if_pos present⟩, fun absent => ⟨toStandby_of_absent absent, if_neg (by simp [absent])⟩⟩
  case dayAgain =>
    have owner : s.taking.leaveStandby = s.taking := leaveStandby_of_ne (s := s.taking) (by simp [run])
    exact h.answered (t := s.taking) (congrArg (Answer.plain · Status.done) owner) rfl
  case day =>
    have left := leaveStandby_of_standby (s := s.taking) standby
    refine ⟨_, h.answered (t := s.taking.leaveStandby) rfl (by simp), keepsBut_answered (by simp) keepsBut_of _ _, rfl, ?_⟩
    simp only [answered_fsc, answered_slu]
    rw [left]
    exact ⟨rfl, rfl, rfl, rfl, rfl, enablePolling_link s.slu⟩

/-! ### The latch -/

/-- What follows at once from the latch's setting (R115, R136, R137). -/
theorem shedFollows_setLatch {s : State} (clear : s.fsc.latch = false) : s.ShedFollows s.setLatch := by
  rw [setLatch_of_clear clear]
  have busy (h : ¬(s.llc.state = .run ∧ s.latched.llc.flight = none)) : s.latched.raiseShed.llc = { s.latched.llc with pendingShed := true } := by
    rw [raiseShed, prompt_busy]
    · rfl
    · rw [latched_llc] at h ⊢
      exact h
  refine ⟨fun c => ?_, ?_, ?_, fun early => ?_, fun run idle => ?_, fun run f flight cut => ?_, fun run f flight uncut => ?_⟩
  · rw [raiseShed_fdu, latched_fdu, clampFades_levels]
    simp
  · rw [raiseShed_fdu, latched_fdu]; rfl
  · rw [raiseShed_fdu, latched_fdu]; rfl
  · rw [busy fun h => early h.1, latched_llc, if_neg early]
  · rw [raiseShed, prompt_idle, select_eq, if_pos]
    · rw [latched_llc, if_pos run, idle]
      simp only [stageShed, setLlc_ct, latched_ct, setLlc_llc]
      rfl
    · simp
    · simp [run, latched_llc]
    · simp [run, idle, latched_llc]
  · rw [busy (by simp [latched_llc, run, flight]), latched_llc, if_pos run, flight, Option.map_some, if_pos cut]
  · rw [busy (by simp [latched_llc, run, flight]), latched_llc, if_pos run, flight, Option.map_some, if_neg (by simp [uncut]), ← flight]

/-- The blocks that the latch's setting leaves, and the latch. -/
theorem keepsBut_setLatch (s : State) : s.keepsBut [.fsc, .fdu, .llc] s.setLatch := keepsBut_of

theorem setLatch_fsc_of_clear {s : State} (clear : s.fsc.latch = false) : s.setLatch.fsc = { s.fsc with latch := true } := by
  rw [setLatch_of_clear clear, raiseShed_fsc, latched_fsc]

/-! ### The cut -/

theorem cuttable_iff (f : Flight) : cuttable f = true ↔ f.cut = false ∧
    match f.frame with
    | .initGroup => f.elapsed < 7 * 33 + 11
    | .burst _ _ bays => f.elapsed < (2 * bays.length + 5) * 11
    | .allTouch => False
    | .shed _ => False := by
  unfold cuttable
  cases f.frame <;>
    simp only [Bool.and_eq_true, Bool.not_eq_true', decide_eq_true_eq, Bool.false_eq_true, and_false] <;> exact Iff.rfl

/-- A burst is cut at the end of its character on the line (R137). -/
theorem cutFlight_burst {f : Flight} {r : Fin 8} {first : Nat} {bays : List StagedBay} (frame : f.frame = .burst r first bays) :
    ∃ sent, f.elapsed < sent * 11 ∧ sent * 11 ≤ f.elapsed + 11 ∧ (cutFlight f).ends = sent * 11 + 22 := by
  refine ⟨f.elapsed / 11 + 1, by omega, by omega, ?_⟩
  rw [cutFlight, frame]
  rfl

/-- An INIT group is cut at the end of its character on the line, or at once in an inner gap (R137). -/
theorem cutFlight_init {f : Flight} (frame : f.frame = .initGroup) :
    (∀ sent, sent * 33 ≤ f.elapsed → f.elapsed < sent * 33 + 11 → (cutFlight f).ends = sent * 33 + 33) ∧
      (∀ sent, sent * 33 + 11 ≤ f.elapsed → f.elapsed < sent * 33 + 33 → (cutFlight f).ends = f.elapsed + 22) := by
  have ends : (cutFlight f).ends = (if f.elapsed % 33 < 11 then f.elapsed / 33 * 33 + 11 else f.elapsed) + 22 := by
    rw [cutFlight, frame]
    rfl
  rw [ends]
  refine ⟨fun sent after before => ?_, fun sent after before => ?_⟩
  · rw [if_pos (by omega)]; omega
  · rw [if_neg (by omega)]

/-- LTX is high for the gap that ends a cut frame (R137). -/
theorem ltx_of_cut {f : Flight} (cut : f.cut = true) (gap : f.ends ≤ f.elapsed + 22) {s : State} (flight : s.llc.flight = some f) :
    s.ltx = true := by
  have level : f.level = true := by
    rw [Flight.level, cut, if_pos]
    exact decide_eq_true gap
  unfold ltx
  rw [flight]
  cases s.llc.state with
  | off => rfl
  | _ => exact level

/-- Settles O53. -/
theorem shedLatchSetAndCleared : Obligations.ShedLatchSetAndCleared := by
  refine ⟨fun s source n h => ⟨fun set => ?shedAgain, fun clear => ?shed⟩, fun s free released => ⟨fun set => ?asserted, fun clear => ?latches⟩,
    fun s free line => ?assertedAgain, fun s free => unlessHeld_free free _, fun s high => ?level, fun s source n h => ?clear,
    fun f => ⟨cuttable_iff f, rfl, rfl, rfl, fun r first bays => cutFlight_burst, cutFlight_init, fun cut gap s => ltx_of_cut cut gap⟩⟩
  case shedAgain => exact h.answered (t := s.taking) (if_pos set) rfl
  case shed =>
    have owner : ownerOf .shed n [] s.taking = .plain s.taking.setLatch .done := if_neg (by simp [clear])
    have follows := shedFollows_setLatch (s := s.taking) clear
    exact ⟨_, h.answered owner (by simp), keepsBut_answered (by simp) keepsBut_of _ _, rfl, setLatch_fsc_of_clear (s := s.taking) clear,
      ⟨follows.levels, follows.profiles, follows.fadeTimer, follows.early, follows.idle, follows.cut, follows.uncut⟩⟩
  case asserted =>
    have line : s.lineLow = (s.observe false).setLatch := by rw [lineLow, released]; rfl
    show unlessHeld State.lineLow s = _
    rw [unlessHeld_free free, line, setLatch_of_set (s := s.observe false) set]
    rfl
  case latches =>
    have line : s.lineLow = (s.observe false).setLatch := by rw [lineLow, released]; rfl
    have follows := shedFollows_setLatch (s := s.observe false) clear
    refine ⟨(s.observe false).setLatch, ?_, keepsBut_trans (t := s.observe false) keepsBut_of (keepsBut_setLatch _), setLatch_fsc_of_clear (s := s.observe false) clear,
      ⟨follows.levels, follows.profiles, follows.fadeTimer, follows.early, follows.idle, follows.cut, follows.uncut⟩⟩
    show unlessHeld State.lineLow s = _
    rw [unlessHeld_free free, line]
  case assertedAgain =>
    show unlessHeld State.lineLow s = _
    rw [unlessHeld_free free, lineLow, line]
    rcases s with ⟨_, _, _, _, _, _, _, ⟨⟩, _, _, _⟩
    cases line
    rfl
  case level =>
    show Host.Outcome.next (if s.fsc.resetHeld = true then s.shednLevel high else s.shednLevel high) = _
    rw [ite_self]
    rfl
  case clear =>
    split
    · next line => exact h.refused (if_pos line)
    · next line =>
      split
      · next set =>
        have owner : ownerOf .shedClear n [] s.taking = .plain (s.taking.setFsc { s.fsc with latch := false }) .done :=
          (if_neg line).trans (if_pos set)
        exact h.answered (t := s.taking.setFsc { s.fsc with latch := false }) owner rfl
      · next set => exact h.answered (t := s.taking) ((if_neg line).trans (if_neg set)) rfl

end Sys2Proof.Proofs.FloorStates
end

section
/-! PROOF. The SET requests: their checks, their place in the list, and the occupant's wake (O26, O27). -/

namespace Sys2Proof.Proofs.SetRequests

open Sys2Proof.Machine Sys2Proof.Machine.State Sys2Proof.Proofs.Effects Sys2Proof.Proofs.Idle Sys2Proof.Proofs.Listed
  Sys2Proof.Proofs.FloorStates

theorem exec_setCommand (kind : Kind) (source : Byte) (p : List Byte) (s : State) :
    exec (setCommand kind source p) s = request (setRequest kind).code source p s := by cases kind <;> rfl

theorem ownerOf_setRequest (kind : Kind) : ownerOf (setRequest kind) = setEntry kind := by cases kind <;> rfl

/-! ### The checks -/

/-- A SET request that its owner refuses changes nothing but the ZBI. -/
theorem set_refused {kind : Kind} {s : State} {source : Byte} {p : List Byte} {n : Fin 8} {status : Status}
    (h : s.Takes (setRequest kind) source p n) (owner : setEntry kind n p s.taking = .refuse s.taking status) :
    exec (setCommand kind source p) s = .next (s.setZbi (repliedWith s.zbi status [])) := by
  rw [exec_setCommand]
  exact h.refused (by rw [ownerOf_setRequest]; exact owner)

section
variable {kind : Kind} {n : Fin 8} {p : List Byte} {s : State} {sel : Selector}

theorem setEntry_of_form (h : 15 < byteAt p 0 ∨ parseSelector (byteAt p 5) (p.drop 6) = none) :
    setEntry kind n p s = .refuse s .refusedFormat := by
  rw [setEntry]
  split
  · rfl
  · rw [h.resolve_left ‹_›]

theorem setEntry_of_selector (tag : byteAt p 0 ≤ 15) (form : parseSelector (byteAt p 5) (p.drop 6) = some sel)
    (h : sel.malformed = true ∨ ∀ c : Fin 256, s.ct.covers sel c = false) : setEntry kind n p s = .refuse s .refusedSelector := by
  rw [setEntry, if_neg (by omega), form]
  refine if_pos ?_
  rw [Bool.or_eq_true, CellTable.vacant_iff]
  exact h

/-- A SET request that passes the checks of tag, form and selector takes the place that its entry has (R67 to R69). -/
theorem setEntry_of_checks (tag : byteAt p 0 ≤ 15) (form : parseSelector (byteAt p 5) (p.drop 6) = some sel)
    (sound : sel.malformed = false) (covers : ∃ c : Fin 256, s.ct.covers sel c = true) :
    setEntry kind n p s =
      match placeFor s.rlu.list (newEntry s kind n p sel) with
      | none => .refuse s .refusedFull
      | some a =>
        { state := acceptEntry s (newEntry s kind n p sel) a, status := if kind.limit < halfAt p 1 then .doneClamped else .done,
          data := [a.code, a.keyOut] ++ halfBytes (s.ct.coverage sel) ++
            [BitVec.ofNat 8 (acceptInto s.rlu.list (newEntry s kind n p sel) a).length] } := by
  have placed : ¬(sel.malformed || s.ct.vacant sel) = true := by
    obtain ⟨c, covered⟩ := covers
    rw [Bool.or_eq_true, CellTable.vacant_iff, not_or]
    exact ⟨by simp [sound], fun uncovered => by simp [uncovered c] at covered⟩
  rw [setEntry, if_neg (by omega), form]
  dsimp only
  rw [if_neg placed]
  cases placeFor s.rlu.list (newEntry s kind n p sel) with
  | none => rfl
  | some a =>
    dsimp only
    rw [acceptEntry_rlu]
    rfl

end

/-! ### The place in the list -/

/-- One entry leaves a list of distinct keys with its key. -/
theorem length_filter_key {l : List Entry} (keys : l.Pairwise fun e f => e.sameKey f = false) {old : Entry} (mem : old ∈ l) :
    (l.filter fun x => !x.sameKey old).length + 1 = l.length := by
  induction l with
  | nil => cases mem
  | cons e l ih =>
    obtain ⟨apart, keys⟩ := List.pairwise_cons.mp keys
    rcases List.mem_cons.mp mem with rfl | mem
    · have rest : (l.filter fun x => !x.sameKey old) = l :=
        List.filter_eq_self.mpr fun x mem => by rw [sameKey_comm, apart x mem]; rfl
      rw [List.filter_cons_of_neg (by simp [sameKey_self]), rest, List.length_cons]
    · rw [List.filter_cons_of_pos (by simp [apart old mem]), List.length_cons, List.length_cons, ih keys mem]

theorem placeFor_replaced {l : List Entry} {e old : Entry} (keys : l.Pairwise fun e f => e.sameKey f = false) (mem : old ∈ l)
    (same : old.sameKey e = true) : placeFor l e = some (.replaced old) := by
  have found : l.find? e.sameKey = some old := by
    cases found : l.find? e.sameKey with
    | none => exact absurd (sameKey_comm e old ▸ same) (by simpa using List.find?_eq_none.mp found old mem)
    | some d =>
      have dsame : e.sameKey d = true := List.find?_some found
      rw [eq_of_sameKey keys mem (List.mem_of_find?_eq_some found) (sameKey_trans same dsame)]
  rw [placeFor, found]

theorem placeFor_fresh {l : List Entry} {e : Entry} (fresh : ∀ x ∈ l, x.sameKey e = false) :
    placeFor l e = if l.length < 48 then some .appended else (evictionCandidate e.priority l).map .evicted := by
  have none : l.find? e.sameKey = none :=
    List.find?_eq_none.mpr fun x mem => by rw [sameKey_comm, fresh x mem]; simp
  rw [placeFor, none]
  rfl

/-- An accepted entry: the reply, the list and what is re-resolved, and the blocks that stay (R70, R79). -/
theorem set_accepted {kind : Kind} {s : State} {source : Byte} {p : List Byte} {n : Fin 8} {sel : Selector} {a : Acceptance} {l : List Entry}
    (h : s.Takes (setRequest kind) source p n) (listed : s.Listed) (tag : byteAt p 0 ≤ 15)
    (form : parseSelector (byteAt p 5) (p.drop 6) = some sel) (sound : sel.malformed = false) (covers : ∃ c : Fin 256, s.ct.covers sel c = true)
    (place : placeFor s.rlu.list (newEntry s kind n p sel) = some a) (list : acceptInto s.rlu.list (newEntry s kind n p sel) a = l) :
    ∃ t, exec (setCommand kind source p) s = .next t ∧ relisted s t l ∧
      t.zbi = repliedWith s.zbi (if kind.limit < halfAt p 1 then .doneClamped else .done)
        ([a.code, a.keyOut] ++ halfBytes (s.ct.coverage sel) ++ [BitVec.ofNat 8 l.length]) ∧
      s.keepsBut [.rlu, .zbi, .fsc, .slu] t := by
  have placed : EntryPlaced s.taking (newEntry s.taking kind n p sel) a :=
    { executing := rfl, live := (senderSlot_spec h.sender).1, priority := rfl, coverage := rfl, place,
      range := ⟨min_le_right _ _, holdOk_holdOf (halfAt_le p 3), sound⟩ }
  have after := listed_entry (s := s.taking) (listed_congr listed rfl rfl rfl rfl) placed
  have owner := setEntry_of_checks (s := s.taking) (kind := kind) (n := n) tag form sound covers
  rw [show placeFor s.taking.rlu.list (newEntry s.taking kind n p sel) = some a from place] at owner
  refine ⟨_, (exec_setCommand kind source p s).trans (h.answered ((congrFun (congrFun (congrFun (ownerOf_setRequest kind) n) p) _).trans owner)
    (acceptEntry_zbi _ _ _)), ⟨?_, ?_, fun c => ?_⟩, ?_, keepsBut_answered (by simp) keepsBut_of _ _⟩
  · rw [answered_rlu, acceptEntry_rlu]
    exact list
  · rw [answered_rlu, acceptEntry_rlu]
    rfl
  · rw [answered_rlu, acceptEntry_rlu, ← list]
    exact after.records c
  · rw [answered_zbi, ← list]
    rfl

/-- Settles O26. -/
theorem setRequestRefusedOrPlaced : Obligations.SetRequestRefusedOrPlaced := by
  refine ⟨fun kind s source p n sel h listed tag form sound covers => ?placed, fun kind s source p n h => ⟨fun bad => ?format,
    fun sel tag form bad => ?selector⟩, fun slot tag => ?key, rfl, rfl, rfl⟩
  case format => exact set_refused h (setEntry_of_form bad)
  case selector => exact set_refused h (setEntry_of_selector tag form bad)
  case key =>
    show (BitVec.ofNat 8 (slot.val * 16 + tag.val)).toNat = _
    exact Nat.mod_eq_of_lt (by omega)
  intro e status others reply
  refine ⟨fun ⟨old, mem, same⟩ => ?replaced, fun fresh room => ?appended, fun old fresh full candidate => ?evicted,
    fun fresh full candidate => ?full⟩
  case replaced =>
    have leaves : acceptInto s.rlu.list e (.replaced old) = others ++ [e] := by
      refine congrArg (· ++ [e]) (List.filter_congr fun x _ => congrArg Bool.not (Bool.eq_iff_iff.mpr ⟨fun key => ?_, fun key => ?_⟩))
      · exact sameKey_trans key same
      · exact sameKey_trans key (sameKey_comm old e ▸ same)
    obtain ⟨t, step, after, zbi, frame⟩ := set_accepted h listed tag form sound covers (placeFor_replaced listed.keys mem same) leaves
    have count : (others ++ [e]).length = s.rlu.list.length := by
      rw [← leaves, ← length_filter_key listed.keys mem]
      exact List.length_append
    rw [count] at zbi
    exact ⟨t, step, after, zbi, frame⟩
  case appended =>
    have place : placeFor s.rlu.list e = some .appended := by rw [placeFor_fresh fresh, if_pos room]
    obtain ⟨t, step, after, zbi, frame⟩ := set_accepted h listed tag form sound covers place rfl
    rw [acceptInto, List.length_append] at zbi
    exact ⟨t, step, after, zbi, frame⟩
  case evicted =>
    have place : placeFor s.rlu.list e = some (.evicted old) := by rw [placeFor_fresh fresh, if_neg (by omega), candidate]; rfl
    obtain ⟨t, step, after, zbi, frame⟩ := set_accepted h listed tag form sound covers place rfl
    have count : (acceptInto s.rlu.list e (.evicted old)).length = 48 := by
      rw [← full, ← length_filter_key listed.keys (foldl_evict_mem candidate)]
      exact List.length_append
    rw [show (acceptInto s.rlu.list (newEntry s kind n p sel) (.evicted old)).length = 48 from count] at zbi
    exact ⟨t, step, after, zbi, frame⟩
  case full =>
    have place : placeFor s.rlu.list e = none := by rw [placeFor_fresh fresh, if_neg (by omega), candidate]; rfl
    have owner := setEntry_of_checks (s := s.taking) (kind := kind) (n := n) tag form sound covers
    rw [show placeFor s.taking.rlu.list (newEntry s.taking kind n p sel) = none from place] at owner
    exact set_refused h owner

/-! ### The occupant's wake -/

/-- What a SET request's owner answers: a refusal, or DONE or DONE_CLAMPED with an accepted entry. -/
theorem setEntry_cases (kind : Kind) (n : Fin 8) (p : List Byte) (s : State) :
    (∃ status, setEntry kind n p s = .refuse s status ∧ status ≠ .done ∧ status ≠ .doneClamped) ∨
      ∃ sel a status data, setEntry kind n p s = ⟨acceptEntry s (newEntry s kind n p sel) a, status, data⟩ ∧
        (status = .done ∨ status = .doneClamped) := by
  by_cases bad : 15 < byteAt p 0 ∨ parseSelector (byteAt p 5) (p.drop 6) = none
  · exact .inl ⟨_, setEntry_of_form bad, by simp, by simp⟩
  obtain ⟨tag, form⟩ := not_or.mp bad
  obtain ⟨sel, form⟩ := Option.ne_none_iff_exists'.mp form
  by_cases malformed : sel.malformed = true ∨ ∀ c : Fin 256, s.ct.covers sel c = false
  · exact .inl ⟨_, setEntry_of_selector (by omega) form malformed, by simp, by simp⟩
  obtain ⟨sound, covers⟩ := not_or.mp malformed
  rw [setEntry_of_checks (by omega) form (by simpa using sound) (by simpa using covers)]
  split
  · exact .inl ⟨_, rfl, by simp, by simp⟩
  · refine .inr ⟨sel, _, _, _, rfl, ?_⟩
    split
    · exact .inr rfl
    · exact .inl rfl

/-- The part and the sensor links after an acceptance: woken by an occupant's TARGET or FIXED from STANDBY (R82). -/
theorem acceptEntry_wakes (s : State) (e : Entry) (a : Acceptance) :
    (e.kind ≠ .cap ∧ (s.zbi.slots.get e.slot).role = .occupant ∧ s.fsc.part = .standby →
      (acceptEntry s e a).fsc = { s.fsc with part := .run } ∧ (acceptEntry s e a).slu = s.slu.enablePolling) ∧
    (¬(e.kind ≠ .cap ∧ (s.zbi.slots.get e.slot).role = .occupant ∧ s.fsc.part = .standby) →
      (acceptEntry s e a).fsc = s.fsc ∧ (acceptEntry s e a).slu = s.slu) := by
  let listed := s.setList (acceptInto s.rlu.list e a) (e.selector :: (a.leaver.map Entry.selector).toList)
  have accepted : acceptEntry s e a = if e.kind ≠ .cap ∧ (s.zbi.slots.get e.slot).role = .occupant then listed.leaveStandby else listed := rfl
  refine ⟨fun ⟨kind, occupant, standby⟩ => ?_, fun asleep => ?_⟩
  · rw [accepted, if_pos ⟨kind, occupant⟩, leaveStandby_of_standby (s := listed) standby]
    exact ⟨rfl, rfl⟩
  · rw [accepted]
    split
    · next may =>
      rw [leaveStandby_of_ne (s := listed) fun standby => asleep ⟨may.1, may.2, standby⟩]
      exact ⟨rfl, rfl⟩
    · exact ⟨rfl, rfl⟩

/-- Settles O27. -/
theorem occupantRequestWakesPart : Obligations.OccupantRequestWakesPart := by
  intro kind s t source p n h step
  rcases setEntry_cases kind n p s.taking with ⟨status, owner, notDone, notClamped⟩ | ⟨sel, a, status, data, owner, done⟩
  · obtain rfl : t = _ := by simpa [set_refused h owner] using step.symm
    have replied : (s.setZbi (repliedWith s.zbi status [])).repliedStatus = some status := rfl
    refine ⟨fun wakes => ?_, fun _ => ⟨rfl, rfl⟩⟩
    rw [replied] at wakes
    simp [notDone, notClamped] at wakes
  · have row := (exec_setCommand kind source p s).trans (h.answered ((congrFun (congrFun (congrFun (ownerOf_setRequest kind) n) p) _).trans owner)
      (acceptEntry_zbi _ _ _))
    obtain rfl : t = _ := by simpa [row] using step.symm
    obtain ⟨wake, stay⟩ := acceptEntry_wakes s.taking (newEntry s.taking kind n p sel) a
    refine ⟨fun wakes => ?_, fun asleep => ?_⟩
    · obtain ⟨fsc, slu⟩ := wake ⟨wakes.2.1, wakes.2.2.1, wakes.2.2.2⟩
      refine ⟨fsc, ?_⟩
      rw [answered_slu, slu]
      exact ⟨rfl, rfl, enablePolling_link s.slu⟩
    · exact stay fun woken => asleep ⟨by simpa using done, woken⟩

end Sys2Proof.Proofs.SetRequests
end

section
/-! PROOF. Blind reports, the blind table and the countdown of holds (O39). -/

namespace Sys2Proof.Proofs.Daylight

open Sys2Proof.Machine Sys2Proof.Machine.State Sys2Proof.Proofs.Idle

/-- An answer that is DONE_CLAMPED exactly where something was clamped. -/
theorem doneOr_eq (s : State) {clamped : Bool} {p : Prop} [Decidable p] (h : clamped = true ↔ p) :
    Answer.doneOr s clamped = ⟨s, if p then .doneClamped else .done, []⟩ := by
  rw [Answer.doneOr, Answer.plain, if_congr h rfl rfl]

/-- BLIND STEP of one section or more (R52). -/
theorem takeBlindStep_eq {p : List Byte} (h : halfAt p 0 ≠ 0) (n : Fin 8) (s : State) :
    takeBlindStep n p s = .doneOr
      (s.setDle { s.dle with
        sections := .ofFn fun i : Fin 16 =>
          if named (halfAt p 0) i then
            { s.dle.sections.get i with step := some (clampBlindStep (byteAt p 2)), hold := holdOf (halfAt p 3) }
          else s.dle.sections.get i })
      (decide (15 < byteAt p 2)) := if_neg h

/-- A second of a hold: the last one makes the section UNKNOWN (R53). -/
theorem section_countDown {c : Section} (h : sectionOk c) :
    c.countDown = if c.hold = some 1 then { c with step := none, hold := none } else { c with hold := c.hold.map (· - 1) } := by
  obtain ⟨_, _, ⟨nonzero, _⟩, _⟩ := h
  unfold Section.countDown
  cases hold : c.hold with
  | none =>
    simp only [reduceCtorEq, if_false, Option.map_none]
    rw [← hold]
  | some n =>
    have : n ≠ 0 := by rintro rfl; exact nonzero hold
    by_cases last : n = 1
    · simp [last]
    · simp [last, show ¬n ≤ 1 by omega]

/-- Settles O39. -/
theorem blindReportsKept : Obligations.BlindReportsKept := by
  refine ⟨fun s source p n h => ⟨fun none => ?_, fun some => ?_⟩, fun s source p n h => ?_, fun s free running ranges => ?_⟩
  · exact h.refused (if_pos none)
  · have owner := (takeBlindStep_eq some n s.taking).trans (doneOr_eq _ decide_eq_true_iff)
    refine ⟨_, h.answered owner rfl, keepsBut_answered (by simp) keepsBut_of _ _, rfl, rfl, rfl, fun i => ?_, rfl⟩
    exact Table.get_ofFn (d := 4) (fun i : Fin 16 =>
      if named (halfAt p 0) i then
        { s.dle.sections.get i with step := Option.some (clampBlindStep (byteAt p 2)), hold := holdOf (halfAt p 3) }
      else s.dle.sections.get i) i rfl
  · have clamped : (decide (15 < byteAt p 32) || (List.finRange 16).any fun i : Fin 16 => decide (256 < halfAt p (2 * i.val))) = true ↔
        (15 < byteAt p 32 ∨ ∃ q : Fin 16, 256 < halfAt p (2 * q.val)) := by simp
    refine ⟨_, h.answered (doneOr_eq _ clamped) rfl, keepsBut_answered (by simp) keepsBut_of _ _, rfl, rfl, fun q => ?_, ?_, rfl⟩
    · exact Table.get_ofFn (d := 4) (fun i : Fin 16 => clampAttenuation (halfAt p (2 * i.val))) q rfl
    · exact Nat.mod_eq_of_lt (Nat.lt_succ_of_le (min_le_right _ _))
  · obtain ⟨n, timer⟩ := Option.isSome_iff_exists.mp running
    have second : s.dleSecond = s.setDle { s.dle with timer := some 0, sections := s.dle.sections.map Section.countDown } := by
      rw [State.dleSecond, timer]
    refine ⟨_, unlessHeld_free free _, ?_⟩
    rw [second]
    refine ⟨keepsBut_of, rfl, rfl, rfl, fun i => ?_⟩
    rw [← section_countDown (ranges.sections i)]
    exact Table.get_map _ _ _

end Sys2Proof.Proofs.Daylight
end

section
/-! PROOF. WRITE MASTER SLOT, in the order of its checks (O54). -/

namespace Sys2Proof.Proofs.MasterSlots

open Sys2Proof.Machine Sys2Proof.Machine.State Sys2Proof.Proofs.Idle Sys2Proof.Proofs.Listed Sys2Proof.Proofs.Daylight

/-! ### The checks -/

theorem roleOfCode_eq_some (code : Nat) (role : Role) : Role.ofCode code = some role ↔ code =
    match role with
    | .empty => 0 | .commissioning => 1 | .supervisor => 2 | .occupant => 3 | .blind => 4 := by
  constructor
  · intro named
    unfold Role.ofCode at named
    split at named <;> cases named <;> rfl
  · rintro rfl
    cases role <;> rfl

theorem roleOfCode_eq_none {code : Nat} (h : 4 < code) : Role.ofCode code = none := by
  cases named : Role.ofCode code with
  | none => rfl
  | some role =>
    have := (roleOfCode_eq_some code role).mp named
    cases role <;> simp only at this <;> omega

theorem otherCommissioning_iff (s : State) (n : Fin 8) :
    s.otherCommissioning n = true ↔ ∃ x : Fin 8, x ≠ n ∧ (s.zbi.slots.get x).role = .commissioning := by
  simp [otherCommissioning]

theorem addressTaken_iff (s : State) (n : Fin 8) (a : Byte) :
    s.addressTaken n a = true ↔ ∃ x : Fin 8, x ≠ n ∧ (s.zbi.slots.get x).role ≠ .empty ∧ (s.zbi.slots.get x).address = a := by
  simp [addressTaken, and_assoc]

theorem addressOk_iff (a : Byte) : addressOk a = true ↔ 0x08 ≤ a.toNat ∧ a.toNat ≤ 0x77 := by
  simp [addressOk]

/-! ### The owner's answer -/

section
variable {slot klass address priority : Byte} {n : Fin 8} {s : State}

/-- The address is held elsewhere: by another slot, by the part, or pending as the part's (R169). -/
def heldElsewhere (s : State) (m : Fin 8) (a : Byte) : Prop :=
  (∃ x : Fin 8, x ≠ m ∧ (s.zbi.slots.get x).role ≠ .empty ∧ (s.zbi.slots.get x).address = a) ∨ a = s.zbi.own ∨ some a = s.zbi.pendingOwn

theorem heldElsewhere_iff (s : State) (m : Fin 8) (a : Byte) :
    (s.addressTaken m a || decide (a = s.zbi.own) || decide (some a = s.zbi.pendingOwn)) = true ↔ heldElsewhere s m a := by
  simp only [Bool.or_eq_true, decide_eq_true_eq, addressTaken_iff, or_assoc]
  exact Iff.rfl

theorem takeMasterSlot_format (h : 7 < slot.toNat ∨ 4 < klass.toNat) :
    takeMasterSlot n [slot, klass, address, priority] s = .refuse s .refusedFormat := by
  rcases h with slotBad | classBad
  · exact if_pos slotBad
  · rw [takeMasterSlot]
    split
    · rfl
    · rw [show Role.ofCode (byteAt [slot, klass, address, priority] 1) = none from roleOfCode_eq_none classBad]

/-- A slot made EMPTY, unless it is the last COMMISSIONING one (R169). -/
theorem takeMasterSlot_empty (small : slot.toNat ≤ 7) :
    takeMasterSlot n [slot, 0, address, priority] s =
      if s.otherCommissioning (Fin.ofNat 8 slot.toNat) = true then .plain (s.writeSlot (Fin.ofNat 8 slot.toNat) .vacant) .done
      else .refuse s .refusedState := if_neg (Nat.not_lt.mpr small)

/-- A slot given a master: the address's range, its being free, and the last COMMISSIONING slot (R169). -/
theorem takeMasterSlot_used {role : Role} (small : slot.toNat ≤ 7) (named : Role.ofCode klass.toNat = some role) (used : role ≠ .empty) :
    takeMasterSlot n [slot, klass, address, priority] s =
      let m : Fin 8 := Fin.ofNat 8 slot.toNat
      if !addressOk address then .refuse s .refusedFormat
      else if s.addressTaken m address || decide (address = s.zbi.own) || decide (some address = s.zbi.pendingOwn) then
        .refuse s .refusedState
      else if role ≠ .commissioning ∧ s.otherCommissioning m = false then .refuse s .refusedState
      else .doneOr (s.writeSlot m { role, address, priority := clampPriority priority.toNat }) (decide (7 < priority.toNat)) := by
  rw [takeMasterSlot]
  dsimp only
  rw [if_neg (show ¬7 < byteAt [slot, klass, address, priority] 0 from Nat.not_lt.mpr small),
    show Role.ofCode (byteAt [slot, klass, address, priority] 1) = some role from named]
  cases role with
  | empty => exact absurd rfl used
  | _ => rfl

end

/-- An accepted write: the slot stored, its entries purged, and the reply (R169, R77). -/
theorem slotStored {s : State} {k : Request} {source : Byte} {p : List Byte} {n m : Fin 8} {new : MasterSlot} {status : Status}
    (h : s.Takes k source p n) (listed : s.Listed) (owner : ownerOf k n p s.taking = ⟨s.taking.writeSlot m new, status, []⟩) :
    ∃ t, request k.code source p s = .next t ∧ s.keepsBut [.rlu, .zbi] t ∧
      t.zbi = { repliedWith s.zbi status [] with slots := s.zbi.slots.set m new } ∧
      relisted s t (s.rlu.list.filter fun e => !decide (e.slot = m)) := by
  have after : (s.taking.writeSlot m new).Listed := listed_writeSlot (s := s.taking) (listed_congr listed rfl rfl rfl rfl) m new
  exact ⟨_, h.served owner, keepsBut_holdReply (by simp) keepsBut_of _ _, rfl, ⟨rfl, rfl, after.records⟩⟩

/-- Settles O54. -/
theorem masterSlotWritten : Obligations.MasterSlotWritten := by
  refine ⟨roleOfCode_eq_some, fun s source slot klass address priority n h listed => ?_⟩
  intro c m refused another held stored
  have others := otherCommissioning_iff s m
  have elsewhere := heldElsewhere_iff s m address
  refine ⟨fun bad => h.refused (takeMasterSlot_format (n := n) bad), fun small empty => ?empty, fun small role named used => ?used⟩
  case empty =>
    subst empty
    have owner := takeMasterSlot_empty (n := n) (address := address) (priority := priority) (s := s.taking) small
    exact ⟨fun yes => slotStored h listed (owner.trans (if_pos (others.mpr yes))),
      fun no => h.refused (owner.trans (if_neg fun yes => no (others.mp yes)))⟩
  case used =>
    have owner := takeMasterSlot_used (n := n) (address := address) (priority := priority) (s := s.taking) small named used
    have ok := addressOk_iff address
    refine ⟨fun bad => h.refused (owner.trans (if_pos ?_)), fun low high => ?_⟩
    · rw [Bool.not_eq_true', Bool.eq_false_iff, Ne, ok]
      omega
    rw [if_neg (by simp [ok.mpr ⟨low, high⟩])] at owner
    refine ⟨fun taken => h.refused (owner.trans (if_pos (elsewhere.mpr taken))), fun free notMaster last => ?_, fun free may => ?_⟩
    · refine h.refused (owner.trans ((if_neg fun taken => free (elsewhere.mp taken)).trans (if_pos ⟨notMaster, ?_⟩)))
      exact Bool.eq_false_iff.mpr fun yes => last (others.mp yes)
    · refine slotStored h listed (owner.trans ((if_neg fun taken => free (elsewhere.mp taken)).trans ((if_neg ?_).trans
        (doneOr_eq _ decide_eq_true_iff))))
      rintro ⟨notMaster, none⟩
      have yes := others.mpr (may.resolve_left notMaster)
      rw [show s.otherCommissioning m = false from none] at yes
      cases yes

end Sys2Proof.Proofs.MasterSlots
end

section
/-! PROOF. WRITE PROFILE and WRITE SENSOR: the stored values, and a change of presence followed by the sensor's link (O55). -/

namespace Sys2Proof.Proofs.SensorWrites

open Sys2Proof.Machine Sys2Proof.Machine.State Sys2Proof.Proofs.Idle Sys2Proof.Proofs.Sensors Sys2Proof.Proofs.Daylight

/-! ### A change of presence -/

/-- A poll of a sensor abandoned (R37). -/
def dropPoll (u : SensorLinks) (i : Fin 16) : SensorLinks :=
  match u.inFlight.get (linkOf i) with
  | some p => if p.position = positionOf i then { u with inFlight := u.inFlight.set (linkOf i) none } else u
  | none => u

/-- A link started or stopped, as it begins or ends to run (R37). -/
def followRunning (u : SensorLinks) (l : Fin 4) (was : Bool) : SensorLinks :=
  if !was && u.running l then u.startLink l else if was && !u.running l then u.stopLink l else u

theorem changeSensor_slu (s : State) (i : Fin 16) (present : Bool) :
    (s.changeSensor i present).slu =
      followRunning (dropPoll { s.slu with sensors := s.slu.sensors.set i (.cleared present) } i) (linkOf i) (s.slu.running (linkOf i)) :=
  rfl

/-- An abandoned poll touches the polls in flight only. -/
theorem dropPoll_eq (u : SensorLinks) (i : Fin 16) : dropPoll u i = { u with inFlight := (dropPoll u i).inFlight } := by
  unfold dropPoll
  split
  · split <;> rfl
  · rfl

theorem dropPoll_inFlight (u : SensorLinks) (i : Fin 16) (m : Fin 4) :
    (dropPoll u i).inFlight.get m =
      if m = linkOf i ∧ (u.inFlight.get m).map Poll.position = some (positionOf i) then none else u.inFlight.get m := by
  unfold dropPoll
  cases flight : u.inFlight.get (linkOf i) with
  | none =>
    dsimp only
    split
    · next here => simp [here.1, flight] at here
    · rfl
  | some p =>
    dsimp only
    by_cases polled : p.position = positionOf i
    · rw [if_pos polled, Table.get_set _ _ _ _ rfl]
      by_cases own : linkOf i = m
      · subst own
        simp [flight, polled]
      · simp [own, Ne.symm own]
    · rw [if_neg polled]
      split
      · next here => simp [here.1, flight, polled] at here
      · rfl

theorem followRunning_eq (u : SensorLinks) (l : Fin 4) (was : Bool) :
    followRunning u l was = { u with timers := (followRunning u l was).timers, lastPolled := (followRunning u l was).lastPolled } := by
  unfold followRunning
  split_ifs <;> rfl

/-- The timer and the rotation of a link that starts, stops, or runs on (R37). -/
theorem followRunning_link (u : SensorLinks) (l m : Fin 4) (was : Bool) :
    (m = l → was = false → u.running l = true →
      (followRunning u l was).timers.get m = (if u.polling then some 0 else none) ∧ (followRunning u l was).lastPolled.get m = none) ∧
    (m = l → was = true → u.running l = false → (followRunning u l was).timers.get m = none) ∧
    ((m = l → was = u.running l) →
      (followRunning u l was).timers.get m = u.timers.get m ∧ (followRunning u l was).lastPolled.get m = u.lastPolled.get m) := by
  refine ⟨?_, ?_, fun kept => ?_⟩
  · rintro rfl rfl runs
    simp [followRunning, runs, SensorLinks.startLink]
  · rintro rfl rfl stops
    simp [followRunning, stops, SensorLinks.stopLink]
  · by_cases own : l = m
    · subst own
      rw [kept rfl]
      cases runs : u.running l <;> simp [followRunning, runs]
    · unfold followRunning
      split_ifs <;> simp [SensorLinks.startLink, SensorLinks.stopLink, own]

theorem linkOf_sensorAt (l p : Fin 4) : linkOf (sensorAt l p) = l := Fin.ext (by simp only [linkOf, sensorAt]; omega)

/-- A link runs by its own sensors. -/
theorem running_set_ne {u : SensorLinks} {i : Fin 16} {m : Fin 4} (h : m ≠ linkOf i) (r : Sensor) :
    ({ u with sensors := u.sensors.set i r } : SensorLinks).running m = u.running m := by
  refine congrArg (List.any _) (funext fun p => ?_)
  have other : i ≠ sensorAt m p := fun same => h (by rw [same, linkOf_sensorAt])
  rw [Table.get_set_ne _ _ other rfl]

/-- The SLU with a sensor's record cleared, its poll dropped and its link followed (R37). -/
def cleared (u : SensorLinks) (i : Fin 16) (present : Bool) : SensorLinks :=
  followRunning (dropPoll { u with sensors := u.sensors.set i (.cleared present) } i) (linkOf i) (u.running (linkOf i))

theorem cleared_running (u : SensorLinks) (i : Fin 16) (present : Bool) :
    (cleared u i present).running =
      (dropPoll { u with sensors := u.sensors.set i (.cleared present) } i).running := by
  funext m
  rw [cleared, followRunning_eq]
  rfl

theorem cleared_running_ne {u : SensorLinks} {i : Fin 16} {m : Fin 4} (h : m ≠ linkOf i) (present : Bool) :
    (cleared u i present).running m = u.running m := by
  rw [cleared_running, dropPoll_eq]
  exact running_set_ne h _

theorem cleared_inFlight (u : SensorLinks) (i : Fin 16) (present : Bool) (m : Fin 4) :
    (cleared u i present).inFlight.get m =
      if m = linkOf i ∧ (u.inFlight.get m).map Poll.position = some (positionOf i) then none else u.inFlight.get m := by
  rw [cleared, followRunning_eq]
  exact dropPoll_inFlight _ i m

/-- The timer and the rotation of every link after the change: a link that starts, one that stops, and every other (R37). -/
theorem cleared_link (u : SensorLinks) (i : Fin 16) (present : Bool) (m : Fin 4) :
    (u.running m = false ∧ (cleared u i present).running m = true →
      (cleared u i present).timers.get m = (if u.polling then some 0 else none) ∧ (cleared u i present).lastPolled.get m = none) ∧
    (u.running m = true ∧ (cleared u i present).running m = false → (cleared u i present).timers.get m = none) ∧
    (¬(u.running m = false ∧ (cleared u i present).running m = true) → ¬(u.running m = true ∧ (cleared u i present).running m = false) →
      (cleared u i present).timers.get m = u.timers.get m ∧ (cleared u i present).lastPolled.get m = u.lastPolled.get m) := by
  have own {a b : Bool} (was : u.running m = a) (now : (cleared u i present).running m = b) (differ : a ≠ b) : m = linkOf i := by
    by_contra other
    exact differ (was.symm.trans ((cleared_running_ne other present).symm.trans now))
  obtain ⟨starts, stops, stays⟩ := followRunning_link (dropPoll { u with sensors := u.sensors.set i (.cleared present) } i) (linkOf i) m
    (u.running (linkOf i))
  rw [← cleared_running] at starts stops stays
  have polling : (dropPoll { u with sensors := u.sensors.set i (.cleared present) } i).polling = u.polling := by rw [dropPoll_eq]
  have timers : (dropPoll { u with sensors := u.sensors.set i (.cleared present) } i).timers = u.timers := by rw [dropPoll_eq]
  have lastPolled : (dropPoll { u with sensors := u.sensors.set i (.cleared present) } i).lastPolled = u.lastPolled := by rw [dropPoll_eq]
  rw [polling] at starts
  rw [timers, lastPolled] at stays
  refine ⟨fun ⟨was, now⟩ => ?_, fun ⟨was, now⟩ => ?_, fun noStart noStop => ?_⟩
  · have same := own was now (by simp)
    subst same
    exact starts rfl was now
  · have same := own was now (by simp)
    subst same
    exact stops rfl was now
  · refine stays ?_
    rintro rfl
    cases was : u.running (linkOf i) <;> cases now : (cleared u i present).running (linkOf i) <;> simp_all

/-! ### The writes -/

theorem clampStep_eq (v : Nat) : clampStep v = if v = 0 then 1 else if 1000 < v then 1000 else v := by
  unfold clampStep
  split_ifs <;> omega

/-- WRITE PROFILE of a profile that there is (R108). -/
theorem takeProfile_eq {p : List Byte} (small : byteAt p 0 ≤ 7) (n : Fin 8) (s : State) :
    takeProfile n p s =
      ⟨s.setFdu { s.fdu with
          profiles := s.fdu.profiles.set (Fin.ofNat 8 (byteAt p 0)) ⟨clampStep (halfAt p 1), clampStep (halfAt p 3)⟩ },
        if clampStep (halfAt p 1) ≠ halfAt p 1 ∨ clampStep (halfAt p 3) ≠ halfAt p 3 then .doneClamped else .done, []⟩ := by
  have owner : takeProfile n p s = .doneOr _ _ := if_neg (Nat.not_lt.mpr small)
  exact owner.trans (doneOr_eq _ (by rw [Bool.or_eq_true, decide_eq_true_iff, decide_eq_true_iff]))

/-- The state a WRITE SENSOR leaves in the SLU and the DLE (R36, R37, R47). -/
def sensorStored (s : State) (i : Fin 16) (present : Bool) (shift : Nat) : State :=
  if present ≠ (s.slu.sensors.get i).present then (s.setShift i (min shift 7)).changeSensor i present else s.setShift i (min shift 7)

theorem takeSensor_eq {sensor flag shift : Byte} (small : sensor.toNat ≤ 15) (n : Fin 8) (s : State) :
    takeSensor n [sensor, flag, shift] s =
      ⟨sensorStored s (Fin.ofNat 16 sensor.toNat) (decide (flag ≠ 0)) shift.toNat,
        if 1 < flag.toNat ∨ 7 < shift.toNat then .doneClamped else .done, []⟩ := by
  have zero : (flag.toNat ≠ 0) = (flag ≠ 0) := by
    simp only [ne_eq, eq_iff_iff, not_iff_not]
    exact ⟨fun none => BitVec.eq_of_toNat_eq none, fun none => by rw [none]; rfl⟩
  have owner : takeSensor n [sensor, flag, shift] s =
      .doneOr (sensorStored s (Fin.ofNat 16 sensor.toNat) (decide (flag.toNat ≠ 0)) shift.toNat) _ := if_neg (Nat.not_lt.mpr small)
  simp only [zero] at owner
  exact owner.trans (doneOr_eq _ (by rw [Bool.or_eq_true, decide_eq_true_iff, decide_eq_true_iff]; exact Iff.rfl))

section
variable (s : State) (i : Fin 16) (present : Bool) (shift : Nat)

theorem setShift_section (j : Fin 16) :
    (s.setShift i shift).dle.sections.get j = if i = j then { s.dle.sections.get i with shift } else s.dle.sections.get j :=
  Table.get_set _ _ _ _ rfl

/-- A WRITE SENSOR that leaves presence as it is stores the shift alone (R36, R47). -/
theorem sensorStored_of_same (h : present = (s.slu.sensors.get i).present) :
    sensorStored s i present shift = s.setShift i (min shift 7) := if_neg (by simp [h])

theorem sensorStored_of_changed (h : present ≠ (s.slu.sensors.get i).present) :
    sensorStored s i present shift = (s.setShift i (min shift 7)).changeSensor i present := if_pos h

/-- The rest of the SLU and the DLE. -/
theorem sensorStored_rest :
    (sensorStored s i present shift).slu.settings = s.slu.settings ∧ (sensorStored s i present shift).slu.polling = s.slu.polling ∧
      (sensorStored s i present shift).slu.lines = s.slu.lines ∧
      (sensorStored s i present shift).dle = { s.dle with sections := (sensorStored s i present shift).dle.sections } := by
  unfold sensorStored
  split
  · rw [changeSensor_slu, followRunning_eq, dropPoll_eq]
    exact ⟨rfl, rfl, rfl, rfl⟩
  · exact ⟨rfl, rfl, rfl, rfl⟩

theorem keepsBut_sensorStored : s.keepsBut [.slu, .dle] (sensorStored s i present shift) := by
  unfold sensorStored
  split
  · exact keepsBut_of (ct := fun _ => rfl) (rlu := fun _ => rfl) (lau := fun _ => rfl) (fdu := fun _ => rfl) (llc := fun _ => rfl)
      (fsc := fun _ => rfl) (sst := fun _ => rfl) (zbi := fun _ => rfl) (queue := fun _ => rfl)
  · exact keepsBut_of (ct := fun _ => rfl) (rlu := fun _ => rfl) (lau := fun _ => rfl) (fdu := fun _ => rfl) (llc := fun _ => rfl)
      (fsc := fun _ => rfl) (sst := fun _ => rfl) (zbi := fun _ => rfl) (queue := fun _ => rfl)

theorem sensorStored_other {j : Fin 16} (h : j ≠ i) :
    (sensorStored s i present shift).slu.sensors.get j = s.slu.sensors.get j ∧
      (sensorStored s i present shift).dle.sections.get j = s.dle.sections.get j := by
  have kept : (s.setShift i (min shift 7)).dle.sections.get j = s.dle.sections.get j := by
    rw [setShift_section, if_neg (Ne.symm h)]
  unfold sensorStored
  split
  · rw [changeSensor_sensors, Table.get_set_ne _ _ (Ne.symm h) rfl, changeSensor, handOff_section, if_neg (Ne.symm h)]
    exact ⟨rfl, kept⟩
  · exact ⟨rfl, kept⟩

variable {s i present shift}

/-- The records of a sensor whose presence changes: cleared, and its section unseeded (R37). -/
theorem sensorStored_records (h : present ≠ (s.slu.sensors.get i).present) :
    (sensorStored s i present shift).slu.sensors.get i = .cleared present ∧
      (sensorStored s i present shift).dle.sections.get i = { s.dle.sections.get i with shift := min shift 7, filtered := none } := by
  rw [sensorStored_of_changed _ _ _ _ h]
  refine ⟨by rw [changeSensor_sensors, Table.get_set_self], ?_⟩
  rw [changeSensor, handOff_section, if_pos rfl]
  show ((s.setShift i (min shift 7)).dle.sections.get i).take .unseed = _
  rw [setShift_section, if_pos rfl]
  rfl

/-- The SLU after a change of presence: the poll dropped, and the link followed (R37). -/
theorem sensorStored_slu (h : present ≠ (s.slu.sensors.get i).present) :
    (sensorStored s i present shift).slu = cleared s.slu i present := by
  rw [sensorStored_of_changed _ _ _ _ h, changeSensor_slu]
  rfl

end

/-- Settles O55. -/
theorem profileAndSensorWritten : Obligations.ProfileAndSensorWritten := by
  refine ⟨fun s source p n h => ⟨fun above => h.refused (if_pos above), fun small => ?profile⟩,
    fun s source sensor flag shift n h => ⟨fun above => h.refused (if_pos above), fun small => ?sensor⟩⟩
  case profile =>
    intro step
    have clamp : clampStep = step := funext clampStep_eq
    rw [← clamp]
    exact ⟨_, h.answered (takeProfile_eq small n s.taking) rfl, keepsBut_answered (by simp) keepsBut_of _ _, rfl, rfl⟩
  intro i l old present sec'
  obtain ⟨settings, polling, lines, dle⟩ := sensorStored_rest s.taking i present shift.toNat
  have kept := keepsBut_sensorStored s.taking i present shift.toNat
  refine ⟨_, h.answered (takeSensor_eq small n s.taking) (kept .zbi (by simp)), keepsBut_answered (by simp) (CellField.keepsBut_mono kept (by simp)) _ _,
    rfl, settings, polling, lines, dle, fun j => sensorStored_other s.taking i present shift.toNat, fun same => ?same, fun changed => ?changed⟩
  case same =>
    have stored := sensorStored_of_same s.taking i present shift.toNat same
    rw [answered_slu, answered_dle]
    refine ⟨(congrArg State.slu stored).trans rfl, (congrArg (fun t : State => t.dle.sections.get i) stored).trans ?_⟩
    exact (setShift_section s.taking i _ i).trans (if_pos rfl)
  case changed =>
    obtain ⟨record, unseeded⟩ := sensorStored_records (s := s.taking) (shift := shift.toNat) changed
    have slu := sensorStored_slu (s := s.taking) (shift := shift.toNat) changed
    refine ⟨record, unseeded, ?_⟩
    rw [answered_slu, slu]
    refine ⟨fun polled => ?_, fun m other => ?_, cleared_link s.slu i present⟩
    · rw [cleared_inFlight]
      exact if_pos ⟨rfl, polled⟩
    · rw [cleared_inFlight]
      exact if_neg fun here => other.elim (fun ne => ne here.2) fun ne => ne here.1

end Sys2Proof.Proofs.SensorWrites
end

section
/-! PROOF. WRITE LINKS, WRITE PART, SAVE SETTINGS with its completion, and RESTART (O56, O57, O58). -/

namespace Sys2Proof.Proofs.SettingsWrites

open Sys2Proof.Machine Sys2Proof.Machine.State Sys2Proof.Proofs.Effects Sys2Proof.Proofs.Idle Sys2Proof.Proofs.Daylight
  Sys2Proof.Proofs.MasterSlots

/-! ### Link settings -/

theorem clamped_link (w : LinkSettings) (l : Fin 4) :
    w.clamped.links.get l = clampLink w.clamped.n0 w.clamped.n1 { w.links.get l with divisor := max (w.links.get l).divisor 4 } :=
  Table.get_map _ _ _

/-- On a clock that is too fast for any divisor no settings have their ranges (R22). -/
theorem selectedN_le_nine {n0 n1 : Nat} {l : LinkSetting} (h : 4 ≤ l.divisor ∧ 2400 * l.divisor ≤ clockHz (selectedN n0 n1 l.select)) :
    selectedN n0 n1 l.select ≤ 9 := by
  by_contra fast
  have slow : clockHz 10 = 4800 := by decide
  have := clockHz_anti (show 10 ≤ selectedN n0 n1 l.select by omega)
  omega

/-- Settings that have their ranges are left by the four steps (R24). -/
theorem clamped_of_ok {w : LinkSettings} (h : linksOk w) : w.clamped = w := by
  obtain ⟨h0, h1, links⟩ := h
  have slow (l : Fin 4) := selectedN_le_nine ⟨(links l).1, (links l).2.2⟩
  have one : ¬(9 < min w.n0 11 ∧ 9 < min w.n1 11) := by
    have := slow 0
    cases select : (w.links.get (0 : Fin 4)).select <;> simp only [select, selectedN] at this <;> omega
  have n0 : w.clamped.n0 = w.n0 := (if_neg one).trans (min_eq_left h0)
  have n1 : w.clamped.n1 = w.n1 := min_eq_left h1
  have table : w.clamped.links = w.links := by
    refine Table.ext_get (n := 4) rfl fun l => ?_
    obtain ⟨least, _, rate⟩ := links l
    rw [clamped_link, n0, n1, max_eq_left least, clampLink]
    dsimp only
    rw [if_neg (show ¬9 < selectedN w.n0 w.n1 (w.links.get l).select from Nat.not_lt.mpr (slow l)), if_neg (Nat.not_lt.mpr rate)]
  calc w.clamped = ⟨w.clamped.n0, w.clamped.n1, w.clamped.links⟩ := rfl
    _ = w := by rw [n0, n1, table]

theorem clockSelect_ofCode {code : Nat} : (code ≤ 1 → ClockSelect.ofCode code = some (if code = 0 then .lc0 else .lc1)) ∧
    (1 < code → ClockSelect.ofCode code = none) := by
  refine ⟨fun small => ?_, fun large => ?_⟩
  · obtain rfl | rfl : code = 0 ∨ code = 1 := by omega
    · rfl
    · rfl
  · obtain ⟨k, rfl⟩ := Nat.exists_eq_add_of_le' large
    rfl

/-- The link settings that a payload spells (R24). -/
def spelledLinks (p : List Byte) : LinkSettings :=
  { n0 := byteAt p 0, n1 := byteAt p 1,
    links := .ofFn fun l : Fin 4 => ⟨if byteAt p (2 + 2 * l.val) = 0 then .lc0 else .lc1, byteAt p (3 + 2 * l.val)⟩ }

theorem writtenLinks_eq_none {p : List Byte} (h : ∃ l : Fin 4, 1 < byteAt p (2 + 2 * l.val)) : writtenLinks p = none := by
  obtain ⟨l, unknown⟩ := h
  refine if_neg fun all => ?_
  have := List.all_eq_true.mp all l (List.mem_finRange l)
  rw [clockSelect_ofCode.2 unknown] at this
  cases this

theorem writtenLinks_eq_some {p : List Byte} (h : ∀ l : Fin 4, byteAt p (2 + 2 * l.val) ≤ 1) : writtenLinks p = some (spelledLinks p) := by
  rw [writtenLinks, if_pos (List.all_eq_true.mpr fun l _ => by rw [clockSelect_ofCode.1 (h l)]; rfl), spelledLinks]
  simp only [clockSelect_ofCode.1 (h _), Option.getD_some]

theorem linksBusy_iff (s : State) (w : LinkSettings) :
    s.linksBusy w = true ↔ ∃ l : Fin 4, s.slu.running l = true ∧
      (((s.slu.settings.links.get l).select = .lc0 ∧ w.n0 ≠ s.slu.settings.n0) ∨
        ((s.slu.settings.links.get l).select = .lc1 ∧ w.n1 ≠ s.slu.settings.n1) ∨ w.links.get l ≠ s.slu.settings.links.get l) := by
  simp only [linksBusy, List.any_eq_true, List.mem_finRange, true_and, Bool.and_eq_true, Bool.or_eq_true, decide_eq_true_iff, or_assoc]

theorem takeLinks_eq {p : List Byte} (h : ∀ l : Fin 4, byteAt p (2 + 2 * l.val) ≤ 1) (n : Fin 8) (s : State) :
    takeLinks n p s =
      if s.linksBusy (spelledLinks p).clamped = true then .refuse s .refusedBusy
      else .doneOr (s.setSlu { s.slu with settings := (spelledLinks p).clamped }) (decide ((spelledLinks p).clamped ≠ spelledLinks p)) := by
  rw [takeLinks, writtenLinks_eq_some h]

/-- Settles O56. -/
theorem linkSettingsClampedAndWritten : Obligations.LinkSettingsClampedAndWritten := by
  refine ⟨fun n0 n1 => ⟨rfl, rfl, rfl⟩, fun w => ⟨rfl, rfl, clamped_link w, linksOk_clamped, clamped_of_ok⟩, fun s source p n h => ⟨fun unknown => ?_, fun known => ?_⟩⟩
  · refine h.refused ?_
    show takeLinks n p s.taking = _
    rw [takeLinks, writtenLinks_eq_none unknown]
  · intro w busy
    have isBusy := linksBusy_iff s w.clamped
    have owner := takeLinks_eq known n s.taking
    refine ⟨fun runs => h.refused (owner.trans (if_pos (isBusy.mpr runs))), fun free => ?_⟩
    have clamped : decide (w.clamped ≠ w) = true ↔ ¬w.clamped = w := decide_eq_true_iff
    refine ⟨_, h.answered (owner.trans ((if_neg fun runs => free (isBusy.mp runs)).trans (doneOr_eq _ clamped))) rfl,
      keepsBut_answered (by simp) keepsBut_of _ _, rfl, ?_⟩
    rw [answered_zbi, ite_not]

/-! ### WRITE PART -/

theorem quantMode_ofCode (code : Nat) (m : QuantMode) : QuantMode.ofCode code = some m ↔ code =
    match m with
    | .chop => 0 | .round => 1 | .dither => 2 := by
  constructor
  · intro named
    unfold QuantMode.ofCode at named
    split at named <;> cases named <;> rfl
  · rintro rfl
    cases m <;> rfl

theorem quantMode_ofCode_none {code : Nat} (h : 2 < code) : QuantMode.ofCode code = none := by
  cases named : QuantMode.ofCode code with
  | none => rfl
  | some m =>
    have := (quantMode_ofCode code m).mp named
    cases m <;> simp only at this <;> omega

theorem clampInterval_spec (v : Nat) : intervalOk (clampInterval v) ∧ (intervalOk v → clampInterval v = v) ∧
    (v < 200 → clampInterval v = 200) ∧ (2000 < v → clampInterval v = 2000) ∧
    (200 ≤ v → v ≤ 2000 → clampInterval v ≤ v ∧ v < clampInterval v + 100) := by
  unfold intervalOk clampInterval
  omega

/-- Some slot that is not EMPTY holds an address. -/
theorem anyHolds_iff (s : State) (a : Byte) :
    ((List.finRange 8).any fun n => decide ((s.zbi.slots.get n).role ≠ .empty) && decide ((s.zbi.slots.get n).address = a)) = true ↔
      ∃ x : Fin 8, (s.zbi.slots.get x).role ≠ .empty ∧ (s.zbi.slots.get x).address = a := by simp

section
variable {own mode hi lo : Byte} {n : Fin 8} {s : State}

theorem takePart_address (h : own.toNat < 0x08 ∨ 0x77 < own.toNat) : takePart n [own, mode, hi, lo] s = .refuse s .refusedFormat := by
  refine if_pos ?_
  show (!addressOk own) = true
  rw [Bool.not_eq_true', Bool.eq_false_iff, Ne, addressOk_iff]
  omega

theorem takePart_mode (h : 2 < mode.toNat) : takePart n [own, mode, hi, lo] s = .refuse s .refusedFormat := by
  have named : QuantMode.ofCode (byteAt [own, mode, hi, lo] 1) = none := quantMode_ofCode_none h
  rw [takePart]
  simp only [named]
  exact ite_self _

theorem takePart_eq {m : QuantMode} (ok : addressOk own = true) (named : QuantMode.ofCode mode.toNat = some m) :
    takePart n [own, mode, hi, lo] s =
      if (List.finRange 8).any fun n => decide ((s.zbi.slots.get n).role ≠ .empty) && decide ((s.zbi.slots.get n).address = own) then
        .refuse s .refusedState
      else
        .doneOr (((s.setOwn own).setMode m).setInterval (clampInterval (hi.toNat * 256 + lo.toNat)))
          (decide (clampInterval (hi.toNat * 256 + lo.toNat) ≠ hi.toNat * 256 + lo.toNat)) := by
  have passed : ¬(!addressOk ([own, mode, hi, lo].getD 0 0)) = true := by rw [show addressOk ([own, mode, hi, lo].getD 0 0) = true from ok]; simp
  rw [takePart, if_neg passed, show QuantMode.ofCode (byteAt [own, mode, hi, lo] 1) = some m from named]
  rfl

end

theorem setMode_lau (s : State) (m : QuantMode) :
    (s.setMode m).lau.mode = m ∧ ∀ x : Fin 256, (s.setMode m).lau.cells.get x =
      if m = s.lau.mode then s.lau.cells.get x else { s.lau.cells.get x with residue := 0 } := by
  unfold setMode
  split
  · next same => exact ⟨same.symm, fun _ => rfl⟩
  · exact ⟨rfl, fun x => Table.get_map _ _ _⟩

/-- An interval at least R is R at once; a lower one is pending, and nothing else changes while a frame is in flight (R141). -/
theorem setInterval_llc (s : State) (v : Nat) :
    (s.llc.interval ≤ v → (s.setInterval v).llc = { s.llc with interval := v, pendingInterval := none }) ∧
    (v < s.llc.interval → (s.setInterval v).llc.interval = s.llc.interval ∧ (s.setInterval v).llc.pendingInterval = some v ∧
      (s.llc.flight ≠ none → (s.setInterval v).llc = { s.llc with pendingInterval := some v })) := by
  unfold setInterval
  refine ⟨fun high => by rw [if_pos high]; rfl, fun low => ?_⟩
  rw [if_neg (Nat.not_le.mpr low)]
  refine ⟨by rw [prompt_interval]; rfl, by rw [prompt_pendingInterval]; rfl, fun busy => ?_⟩
  rw [prompt_busy (s := s.setLlc { s.llc with pendingInterval := some v }) fun idle => busy idle.2]
  rfl

theorem setOwn_zbi (s : State) (a : Byte) :
    (s.setOwn a).zbi = { s.zbi with pendingOwn := if a = s.zbi.own then s.zbi.pendingOwn else some a } := by
  unfold setOwn
  split <;> rfl

/-- Settles O57. -/
theorem partWritten : Obligations.PartWritten := by
  refine ⟨quantMode_ofCode, clampInterval_spec, fun s source own mode hi lo n h => ?_⟩
  intro c refused written v taken
  have holds := anyHolds_iff s own
  have ok := addressOk_iff own
  refine ⟨fun bad => h.refused (takePart_address (n := n) bad), fun _ _ unknown => h.refused (takePart_mode (n := n) unknown),
    fun low high known inUse => ?_, fun m low high named free => ?_⟩
  · obtain ⟨m, named⟩ : ∃ m, QuantMode.ofCode mode.toNat = some m := by
      rcases (by omega : mode.toNat = 0 ∨ mode.toNat = 1 ∨ mode.toNat = 2) with code | code | code
      · exact ⟨.chop, by rw [code]; rfl⟩
      · exact ⟨.round, by rw [code]; rfl⟩
      · exact ⟨.dither, by rw [code]; rfl⟩
    exact h.refused ((takePart_eq (n := n) (ok.mpr ⟨low, high⟩) named).trans (if_pos (holds.mpr inUse)))
  · have clamped : decide (v ≠ written) = true ↔ ¬v = written := decide_eq_true_iff
    have owner := (takePart_eq (n := n) (s := s.taking) (hi := hi) (lo := lo) (ok.mpr ⟨low, high⟩) named).trans
      ((if_neg fun inUse => free (holds.mp inUse)).trans (doneOr_eq _ clamped))
    obtain ⟨modeIs, cells⟩ := setMode_lau (s.taking.setOwn own) m
    have interval := setInterval_llc ((s.taking.setOwn own).setMode m) v
    simp only [setMode_llc, setOwn_llc, taking_llc] at interval
    rw [setOwn_lau] at cells
    refine ⟨_, h.served owner, keepsBut_holdReply (by simp) keepsBut_of _ _, ?_, ?_, ?_, interval⟩
    · rw [holdReply, setZbi_zbi, setInterval_zbi, setMode_zbi, setOwn_zbi, ite_not]
      rfl
    · rw [holdReply_lau, setInterval_lau]; exact modeIs
    · rw [holdReply_lau, setInterval_lau]; exact cells

/-! ### SAVE SETTINGS and RESTART -/

/-- The check word is the ones' complement of the sum of the setting bytes (R147). -/
theorem checkWord_eq (x : Settings) : x.checkWord = ~~~ BitVec.ofNat 16 ((x.bytes.map BitVec.toNat).sum) := by
  rw [Settings.checkWord, List.sum_eq_foldl, List.foldl_map]

theorem good_of_absent {t : Store} (h : t.check = none) : t.good = false := by simp [Store.good, h]

/-- Settles O58. -/
theorem saveAndRestart : Obligations.SaveAndRestart := by
  refine ⟨fun s source n h => ⟨fun saving => h.refused (if_pos saving), fun idle => ?save⟩, fun s v free saving => ?complete,
    fun s source n h => ⟨fun saving => h.refused (if_pos saving), fun idle => ?restart⟩⟩
  case save =>
    have owner : ownerOf .saveSettings n [] s.taking = .plain s.taking.beginSave .done := if_neg (by simp [idle])
    exact ⟨_, h.answered owner rfl, keepsBut_answered (by simp) keepsBut_of _ _, rfl, rfl, good_of_absent rfl⟩
  case complete =>
    show unlessHeld State.finishSave s = _
    rw [unlessHeld_free free, State.finishSave, saving, ← checkWord_eq]
  case restart =>
    have owner : ownerOf .restart n [] s.taking = .plain (s.taking.setFsc { s.fsc with restartPending := true }) .done :=
      if_neg (by simp [idle])
    exact h.answered (t := s.taking.setFsc { s.fsc with restartPending := true }) owner rfl

end Sys2Proof.Proofs.SettingsWrites
end

section
/-! PROOF. What makes a store good, what the load gives, and the round trip of the settings through a save and a full reset (O18, O59). -/

namespace Sys2Proof.Proofs.Stores

open Sys2Proof.Machine Sys2Proof.Machine.State Sys2Proof.Proofs.Idle Sys2Proof.Proofs.Masters Sys2Proof.Proofs.FloorStates
  Sys2Proof.Proofs.MasterSlots Sys2Proof.Proofs.SettingsWrites

/-! ### A good store -/

theorem all_toList {α : Type} {d n : Nat} (hn : n = 2 ^ d) (t : Table α d) (p : α → Bool) :
    t.toList.all p = true ↔ ∀ i : Fin n, p (t.get i) = true := by
  rw [Table.toList_eq hn]
  simp

theorem any_toList {α : Type} {d n : Nat} (hn : n = 2 ^ d) (t : Table α d) (p : α → Bool) :
    t.toList.any p = true ↔ ∃ i : Fin n, p (t.get i) = true := by
  rw [Table.toList_eq hn]
  simp

theorem roleKnown_iff (b : Byte) : (Role.ofCode b.toNat).isSome = true ↔ b.toNat ≤ 4 := by
  constructor
  · intro known
    by_contra large
    rw [roleOfCode_eq_none (by omega)] at known
    cases known
  · intro small
    obtain code | code | code | code | code : b.toNat = 0 ∨ b.toNat = 1 ∨ b.toNat = 2 ∨ b.toNat = 3 ∨ b.toNat = 4 := by omega
    all_goals rw [code]; rfl

theorem usedSlots_eq (x : Settings) :
    x.usedSlots = ((List.finRange 8).filter fun m => (x.slots.get m).role != 0).map x.slots.get := by
  rw [Settings.usedSlots, Table.toList_eq (n := 8) rfl, List.filter_map]
  rfl

/-- The tests of a stored master table (R146). -/
theorem tableGood_iff (x : Settings) : x.tableGood = true ↔
    (∀ m : Fin 8, (x.slots.get m).role.toNat ≤ 4) ∧ (∃ m : Fin 8, (x.slots.get m).role = 1) ∧
      (∀ m : Fin 8, (x.slots.get m).role ≠ 0 → addressOk (x.slots.get m).address = true) ∧
      ∀ m n : Fin 8, m ≠ n → (x.slots.get m).role ≠ 0 → (x.slots.get n).role ≠ 0 → (x.slots.get m).address ≠ (x.slots.get n).address := by
  have known : (x.slots.toList.all fun m => (Role.ofCode m.role.toNat).isSome) = true ↔ ∀ m : Fin 8, (x.slots.get m).role.toNat ≤ 4 := by
    rw [all_toList (n := 8) rfl]
    exact forall_congr' fun m => roleKnown_iff _
  have commissioning : (x.slots.toList.any fun m => decide (Role.ofCode m.role.toNat = some .commissioning)) = true ↔
      ∃ m : Fin 8, (x.slots.get m).role = 1 := by
    rw [any_toList (n := 8) rfl]
    refine exists_congr fun m => decide_eq_true_iff.trans ((roleOfCode_eq_some _ _).trans ?_)
    exact ⟨fun code => BitVec.eq_of_toNat_eq code, fun code => by rw [code]; rfl⟩
  have addresses : (x.usedSlots.all fun m => addressOk m.address) = true ↔
      ∀ m : Fin 8, (x.slots.get m).role ≠ 0 → addressOk (x.slots.get m).address = true := by
    rw [usedSlots_eq]
    simp [or_iff_not_imp_left]
  have distinct : decide ((x.usedSlots.map StoredSlot.address).Nodup) = true ↔
      ∀ m n : Fin 8, m ≠ n → (x.slots.get m).role ≠ 0 → (x.slots.get n).role ≠ 0 → (x.slots.get m).address ≠ (x.slots.get n).address := by
    rw [decide_eq_true_iff, usedSlots_eq, List.map_map, List.nodup_map_iff_inj_on ((List.nodup_finRange 8).filter _)]
    simp only [List.mem_filter, List.mem_finRange, true_and, bne_iff_ne, Function.comp_apply]
    exact ⟨fun inj m n ne usedM usedN same => ne (inj m usedM n usedN same),
      fun apart m usedM n usedN same => by_contra fun ne => apart m n ne usedM usedN same⟩
  simp only [Settings.tableGood, Bool.and_eq_true, known, commissioning, addresses, distinct, and_assoc]

theorem ownGood_iff (x : Settings) : x.ownGood = true ↔
    addressOk x.own = true ∧ ∀ m : Fin 8, (x.slots.get m).role ≠ 0 → (x.slots.get m).address ≠ x.own := by
  rw [Settings.ownGood, usedSlots_eq, Bool.and_eq_true]
  simp

theorem acceptable_iff (x : Settings) : x.acceptable = true ↔
    (∀ l : Fin 4, (x.links.get l).select.toNat ≤ 1) ∧ x.mode.toNat ≤ 2 := by
  rw [Settings.acceptable, Bool.and_eq_true, all_toList (n := 4) rfl]
  refine and_congr (forall_congr' fun l => ⟨fun known => ?_, fun small => ?_⟩) ⟨fun known => ?_, fun small => ?_⟩
  · by_contra large
    rw [clockSelect_ofCode.2 (by omega)] at known
    cases known
  · rw [clockSelect_ofCode.1 small]; rfl
  · by_contra large
    rw [quantMode_ofCode_none (by omega)] at known
    cases known
  · obtain code | code | code : x.mode.toNat = 0 ∨ x.mode.toNat = 1 ∨ x.mode.toNat = 2 := by omega
    all_goals rw [code]; rfl

theorem good_iff (x : Store) : x.good = true ↔
    x.settings.tableGood = true ∧ x.settings.ownGood = true ∧ x.settings.acceptable = true ∧ x.check = some x.settings.checkWord := by
  simp only [Store.good, Bool.and_eq_true, decide_eq_true_eq, and_assoc]

/-! ### The load -/

theorem finishLoad_live (s : State) : s.finishLoad.live = s.loaded := by
  have rows : s.finishLoad.live.rows = s.loaded.rows := Table.ext_get (n := 8) rfl fun r => by
    refine (Table.get_map _ _ _).trans ?_
    rw [show s.finishLoad.ct.rows.get r = _ from Table.get_map _ _ _]
  have sensors : s.finishLoad.live.sensors = s.loaded.sensors := Table.ext_get (n := 16) rfl fun i => by
    refine (Table.get_ofFn_eq (t := s.finishLoad.live.sensors)
      (f := fun i : Fin 16 => ((s.finishLoad.slu.sensors.get i).present, (s.finishLoad.dle.sections.get i).shift)) rfl rfl i).trans ?_
    rw [show s.finishLoad.slu.sensors.get i = _ from Table.get_map _ _ _, show s.finishLoad.dle.sections.get i = _ from Table.get_map _ _ _]
    rfl
  calc s.finishLoad.live = { s.loaded with rows := s.finishLoad.live.rows, sensors := s.finishLoad.live.sensors } := rfl
    _ = s.loaded := by rw [rows, sensors]

theorem exec_loadComplete {s : State} (free : s.fsc.resetHeld = false) (loading : s.sst.loading.isSome = true) :
    exec .loadComplete s = .next s.finishLoad := by
  obtain ⟨n, running⟩ := Option.isSome_iff_exists.mp loading
  have done : s.loadDone = s.finishLoad := by rw [State.loadDone, running]
  rw [← done]
  exact unlessHeld_free free _

/-- A sensor and its section right after the load (R31, R42, R145). -/
theorem finishLoad_records (s : State) (i : Fin 16) :
    s.finishLoad.slu.sensors.get i = .cleared (s.loaded.sensors.get i).1 ∧
      s.finishLoad.dle.sections.get i = .unseeded (s.loaded.sensors.get i).2 :=
  ⟨Table.get_map _ _ _, Table.get_map _ _ _⟩

/-- Settles O18. -/
theorem loadCompletes : Obligations.LoadCompletes := by
  refine ⟨fun s off => ?off, fun x => ?good, fun s free loading => ?load⟩
  case off =>
    refine ⟨by simp [lde, off], ?_⟩
    unfold ltx
    rw [off]
  case good =>
    rw [good_iff, tableGood_iff, ownGood_iff, acceptable_iff, checkWord_eq]
    simp only [addressOk_iff]
    constructor
    · rintro ⟨⟨known, some, range, apart⟩, ⟨⟨low, high⟩, free⟩, ⟨links, mode⟩, check⟩
      exact ⟨check, known, some, fun m used => ⟨(range m used).1, (range m used).2, free m used⟩, apart, low, high, links, mode⟩
    · rintro ⟨check, known, some, range, apart, low, high, links, mode⟩
      exact ⟨⟨known, some, fun m used => ⟨(range m used).1, (range m used).2.1⟩, apart⟩, ⟨⟨low, high⟩, fun m used => (range m used).2.2⟩,
        ⟨links, mode⟩, check⟩
  case load =>
    refine ⟨s.finishLoad, exec_loadComplete free loading, finishLoad_live s, rfl, rfl, rfl, rfl, rfl, enablePolling_link _, fun i => ?_, rfl, rfl, rfl,
      rfl, rfl, fun r => ?_, fun r => ?_, keepsBut_of (fsc := fun _ => rfl) (queue := fun _ => rfl)⟩
    · obtain ⟨sensor, unseeded⟩ := finishLoad_records s i
      rw [finishLoad_live, sensor, unseeded]
      exact ⟨rfl, rfl, rfl, rfl⟩
    · exact Table.get_ofFn (d := 3) (fun r : Fin 8 => if s.finishLoad.ct.configured r then some 0 else none) r rfl
    · exact congrArg RowRecord.freeze (Table.get_map _ _ _)

/-! ### The round trip -/

section

theorem ofNat_toNat16 {v : Nat} (h : v ≤ 65535) : (BitVec.ofNat 16 v).toNat = v := Nat.mod_eq_of_lt (by omega)

theorem ofNat_toNat8 {v : Nat} (h : v ≤ 255) : (BitVec.ofNat 8 v).toNat = v := Nat.mod_eq_of_lt (by omega)

theorem flag_roundTrip (b : Bool) : decide (Field.present.clamp (if b then (1 : Byte) else 0).toNat = 1) = b := by cases b <;> rfl

theorem fin_roundTrip {n : Nat} [NeZero n] (small : n ≤ 256) (i : Fin n) : Fin.ofNat n (min (BitVec.ofNat 8 i.val).toNat (n - 1)) = i := by
  rw [ofNat_toNat8 (by omega), min_eq_left (by omega)]
  exact Fin.ext (Nat.mod_eq_of_lt i.isLt)

theorem cell_roundTrip {c : Calibration} (h : calibrationOk c) : c.stored.live = c := by
  obtain ⟨least, most, floor, target⟩ := h
  have present := flag_roundTrip c.present
  have efficacy : Field.efficacy.clamp (BitVec.ofNat 16 c.efficacy).toNat = c.efficacy := by
    rw [ofNat_toNat16 (by omega), Field.clamp]; omega
  have floorLevel : Field.floor.clamp (BitVec.ofNat 16 c.floor).toNat = c.floor := by
    rw [ofNat_toNat16 (by omega), Field.clamp]; omega
  have targetLux : Field.target.clamp (BitVec.ofNat 16 c.target).toNat = c.target := by
    rw [ofNat_toNat16 (by omega), Field.clamp]; omega
  have profile : Fin.ofNat 8 (Field.profile.clamp (BitVec.ofNat 8 c.profile.val).toNat) = c.profile := fin_roundTrip (by omega) _
  have facade : Fin.ofNat 16 (Field.facade.clamp (BitVec.ofNat 8 c.facade.val).toNat) = c.facade := fin_roundTrip (by omega) _
  rw [Calibration.stored, StoredCell.live]
  simp only [present, efficacy, floorLevel, targetLux, profile, facade]

theorem row_roundTrip {r : RowRecord} (h : rowOk r) :
    (clampDaylightFactor (BitVec.ofNat 16 r.daylightFactor).toNat, clampLevel (BitVec.ofNat 16 r.shedLevel).toNat) =
      (r.daylightFactor, r.shedLevel) := by
  obtain ⟨factor, level, _⟩ := h
  rw [ofNat_toNat16 (by omega), ofNat_toNat16 (by omega), clampDaylightFactor, clampLevel, min_eq_left factor, min_eq_left level]

theorem role_roundTrip (r : Role) : Role.ofCode (BitVec.ofNat 8 r.code).toNat = some r := by cases r <;> rfl

theorem slot_roundTrip {m : MasterSlot} (h : m.role = .empty → m = .vacant) : m.stored.live = m := by
  by_cases empty : m.role = .empty
  · rw [h empty]
    rfl
  · rw [StoredSlot.live_of_role (role_roundTrip m.role) empty]
    have priority : clampPriority m.stored.priority.toNat = m.priority := fin_roundTrip (by omega) _
    rw [priority]
    rfl

theorem step_roundTrip {v : Nat} (low : 1 ≤ v) (high : v ≤ 1000) : clampStep (BitVec.ofNat 16 v).toNat = v := by
  rw [ofNat_toNat16 (by omega), clampStep]; omega

theorem profile_roundTrip {p : Profile} (h : 1 ≤ p.up ∧ p.up ≤ 1000 ∧ 1 ≤ p.down ∧ p.down ≤ 1000) :
    (⟨clampStep (BitVec.ofNat 16 p.up).toNat, clampStep (BitVec.ofNat 16 p.down).toNat⟩ : Profile) = p := by
  obtain ⟨up, up', down, down'⟩ := h
  rw [step_roundTrip up up', step_roundTrip down down']

theorem select_roundTrip (c : ClockSelect) : ClockSelect.ofCode c.code.toNat = some c := by cases c <;> rfl

theorem selectCode_le (c : ClockSelect) : c.code.toNat ≤ 1 := by cases c <;> decide

theorem mode_roundTrip (m : QuantMode) : QuantMode.ofCode (BitVec.ofNat 8 m.code).toNat = some m := by cases m <;> rfl

end

/-- Link settings in their ranges come back from the store as they went in (R22, R24, R147). -/
theorem links_roundTrip {v : Live} (h : linksOk v.links) : v.stored.liveLinks = v.links := by
  obtain ⟨n0, n1, links⟩ := h
  have table : (v.stored.links.map fun l => (⟨(ClockSelect.ofCode l.select.toNat).getD .lc0, l.divisor.toNat⟩ : LinkSetting)) = v.links.links :=
    Table.ext_get (n := 4) rfl fun l => by
      rw [Table.get_map, show v.stored.links.get l = _ from Table.get_map _ _ _, select_roundTrip, ofNat_toNat8 (links l).2.1]
      rfl
  have raw : v.stored.liveLinks = LinkSettings.clamped ⟨(BitVec.ofNat 8 v.links.n0).toNat, (BitVec.ofNat 8 v.links.n1).toNat,
    v.stored.links.map fun l => (⟨(ClockSelect.ofCode l.select.toNat).getD .lc0, l.divisor.toNat⟩ : LinkSetting)⟩ := rfl
  rw [raw, table, ofNat_toNat8 (by omega), ofNat_toNat8 (by omega)]
  exact clamped_of_ok ⟨n0, n1, links⟩

/-- Settings in their ranges come back from the store as they went in (R146, R147). -/
theorem live_roundTrip {s : State} (ranges : s.Ranges) (masters : s.Masters) : s.live.stored.live = s.live := by
  have cells : s.live.stored.live.cells = s.live.cells := Table.ext_get (n := 256) rfl fun c => by
    refine (Table.get_map _ _ _).trans ?_
    rw [show s.live.stored.cells.get c = _ from Table.get_map _ _ _]
    exact cell_roundTrip (ranges.ct.cells c)
  have rows : s.live.stored.live.rows = s.live.rows := Table.ext_get (n := 8) rfl fun r => by
    refine (Table.get_map _ _ _).trans ?_
    rw [show s.live.stored.rows.get r = _ from Table.get_map _ _ _, show s.live.rows.get r = _ from Table.get_map _ _ _]
    exact row_roundTrip (ranges.ct.rows r)
  have slots : s.live.stored.live.slots = s.live.slots := Table.ext_get (n := 8) rfl fun m => by
    refine (Table.get_map _ _ _).trans ?_
    rw [show s.live.stored.slots.get m = _ from Table.get_map _ _ _]
    exact slot_roundTrip (masters.vacant m)
  have attenuation : s.live.stored.live.attenuation = s.live.attenuation := Table.ext_get (n := 16) rfl fun p => by
    refine (Table.get_map _ _ _).trans ?_
    have small := ranges.sensors.attenuation p
    rw [show s.live.stored.attenuation.get p = _ from Table.get_map _ _ _, clampAttenuation,
      ofNat_toNat16 (show s.live.attenuation.get p ≤ 65535 from small.trans (by omega))]
    exact min_eq_left small
  have fallback : s.live.stored.live.fallback = s.live.fallback := fin_roundTrip (by omega) _
  have profiles : s.live.stored.live.profiles = s.live.profiles := Table.ext_get (n := 8) rfl fun p => by
    refine (Table.get_map _ _ _).trans ?_
    rw [show s.live.stored.profiles.get p = _ from Table.get_map _ _ _]
    exact profile_roundTrip (ranges.levels.profiles p)
  have sensors : s.live.stored.live.sensors = s.live.sensors := Table.ext_get (n := 16) rfl fun i => by
    refine (Table.get_map _ _ _).trans ?_
    have sensor : s.live.sensors.get i = ((s.slu.sensors.get i).present, (s.dle.sections.get i).shift) :=
      Table.get_ofFn_eq (f := fun i : Fin 16 => ((s.slu.sensors.get i).present, (s.dle.sections.get i).shift)) rfl rfl i
    have shift := (ranges.sensors.sections i).2.1
    rw [show s.live.stored.sensors.get i = _ from Table.get_map _ _ _, sensor, flag_roundTrip, clampShift, ofNat_toNat8 (shift.trans (by omega)),
      min_eq_left shift]
  have links : s.live.stored.live.links = s.live.links := links_roundTrip ranges.sensors.links
  have mode : s.live.stored.live.mode = s.live.mode := by
    show (QuantMode.ofCode (BitVec.ofNat 8 s.lau.mode.code).toNat).getD .round = s.lau.mode
    rw [mode_roundTrip]
    rfl
  have interval : s.live.stored.live.interval = s.live.interval := by
    obtain ⟨low, high, whole⟩ := ranges.levels.interval
    show clampInterval (BitVec.ofNat 16 s.llc.interval).toNat = s.llc.interval
    rw [ofNat_toNat16 (by omega)]
    exact (clampInterval_spec _).2.1 ⟨low, high, whole⟩
  calc s.live.stored.live = ⟨s.live.stored.live.cells, s.live.stored.live.rows, s.live.stored.live.slots, s.live.own,
        s.live.stored.live.attenuation, s.live.stored.live.fallback, s.live.stored.live.profiles, s.live.stored.live.sensors,
        s.live.stored.live.links, s.live.stored.live.mode, s.live.stored.live.interval⟩ := rfl
    _ = s.live := by rw [cells, rows, slots, attenuation, fallback, profiles, sensors, links, mode, interval]

/-- Settings that the part holds make a good store, where every address in use is one that a master may have (R146; log 11). -/
theorem good_stored {s : State} (masters : s.Masters)
    (addresses : ∀ m : Fin 8, (s.zbi.slots.get m).role ≠ .empty → addressOk (s.zbi.slots.get m).address = true) :
    Store.good ⟨s.live.stored, some s.live.stored.checkWord⟩ = true := by
  have slot (m : Fin 8) : s.live.stored.slots.get m = (s.zbi.slots.get m).stored := Table.get_map _ _ _
  have used (m : Fin 8) (h : (s.zbi.slots.get m).stored.role ≠ 0) : (s.zbi.slots.get m).role ≠ .empty := by
    intro empty
    rw [MasterSlot.stored, empty] at h
    exact h rfl
  rw [good_iff, tableGood_iff, ownGood_iff, acceptable_iff]
  simp only [slot]
  refine ⟨⟨fun m => ?_, ?_, fun m h => addresses m (used m h), fun m n ne hm hn => masters.distinct m n ne (used m hm) (used n hn)⟩,
    ⟨masters.own, fun m h => masters.ownFree m (used m h)⟩, ⟨fun l => ?_, ?_⟩, trivial⟩
  · rw [← roleKnown_iff, MasterSlot.stored, role_roundTrip]
    rfl
  · obtain ⟨m, role⟩ := masters.commissioning
    exact ⟨m, by rw [MasterSlot.stored, role]; rfl⟩
  · rw [show s.live.stored.links.get l = _ from Table.get_map _ _ _]
    exact selectCode_le _
  · show (BitVec.ofNat 8 s.lau.mode.code).toNat ≤ 2
    cases s.lau.mode <;> decide

/-- A full reset and the load that follows give what the store judged good holds, and else the factory defaults (R144, R146). -/
theorem loaded_of_powerOn {s up loaded : State} (power : exec .powerOn s = .next up) (load : exec .loadComplete up = .next loaded) :
    loaded.live = (if up.sst.store.good then up.sst.store.settings.live else Live.factory) ∧ loaded.sst.unconfigured = !up.sst.store.good ∧
      up.sst.store = if s.sst.saving.isSome then { s.sst.store with check := none } else s.sst.store := by
  have reset : exec .powerOn s = .next s.fullReset := rfl
  obtain rfl : up = _ := by simpa [reset] using power.symm
  have done : exec .loadComplete s.fullReset = .next s.fullReset.finishLoad := exec_loadComplete rfl rfl
  obtain rfl : loaded = _ := by simpa [done] using load.symm
  exact ⟨finishLoad_live _, rfl, rfl⟩

/-- Settles O59. -/
theorem savedSettingsSurviveReset : Obligations.SavedSettingsSurviveReset := by
  intro s saving saved up loaded lost bare source n h idle ranges masters addresses save complete power load powerEarly loadEarly
  have owner : ownerOf .saveSettings n [] s.taking = .plain s.taking.beginSave .done := if_neg (by simp [idle])
  have row : exec (.saveSettings source []) s = _ := h.answered owner rfl
  obtain rfl : saving = _ := by simpa [row] using save.symm
  have finished : exec .saveComplete (s.answered s.taking.beginSave .done []) = _ :=
    saveAndRestart.2.1 _ ⟨s.live.stored, 0⟩ h.running rfl
  obtain rfl : saved = _ := by simpa [finished] using complete.symm
  obtain ⟨live, unconfigured, store⟩ := loaded_of_powerOn power load
  obtain ⟨bareLive, bareUnconfigured, bareStore⟩ := loaded_of_powerOn powerEarly loadEarly
  have kept : up.sst.store = ⟨s.live.stored, some s.live.stored.checkWord⟩ := by
    rw [checkWord_eq]
    exact store
  have good : up.sst.store.good = true := by
    rw [kept]
    exact good_stored masters addresses
  have bad : lost.sst.store.good = false := by
    rw [bareStore]
    exact good_of_absent rfl
  refine ⟨?_, by rw [unconfigured, good]; rfl, by rw [bareLive, if_neg (by simp [bad])], by rw [bareUnconfigured, bad]; rfl⟩
  rw [live, if_pos good, kept]
  exact live_roundTrip ranges masters

end Sys2Proof.Proofs.Stores
end

section
/-! PROOF. The additive checks (O25), the ZBI's checks in order and the catalogue (O21), and the floor call (O22). -/

namespace Sys2Proof.Proofs.Checks

open Sys2Proof.Machine Sys2Proof.Machine.State Sys2Proof.Proofs.Idle

/-! ### Sums -/

/-- Characters carry their values modulo 256, and the check makes up the rest (R176). -/
theorem checkedData_sum (values : List Nat) : ((checkedData values).map BitVec.toNat).foldl (· + ·) 0 % 256 = 0 := by
  have chars : (checkedData values).map BitVec.toNat = (values ++ [linkCheck values]).map (· % 256) := by
    rw [checkedData, List.map_map]
    refine List.map_congr_left fun v _ => ?_
    show v % 256 % 512 = v % 256
    omega
  have total : ((values ++ [linkCheck values]).map (· % 256)).sum % 256 = (values.sum + linkCheck values) % 256 := by
    rw [← List.sum_nat_mod, List.sum_append, List.sum_singleton]
  rw [chars, ← List.sum_eq_foldl, total, linkCheck, ← List.sum_eq_foldl]
  omega

/-- Settles O25. -/
theorem checksSumToZero : Obligations.ChecksSumToZero :=
  ⟨fun own status data => byteSum_checked (readAddress own :: status.code :: BitVec.ofNat 8 data.length :: data),
    fun address source code p => byteSum_checked (address :: source :: code :: BitVec.ofNat 8 p.length :: p),
    checkedData_sum, fun position high low => byteSum_checked [pollChar position, high, low]⟩

/-! ### The catalogue -/

/-- A request row is its request. -/
theorem exec_of_asRequest {c : Instr} {k : Request} {source : Byte} {p : List Byte} (h : asRequest c = some (k, source, p)) (s : State) :
    exec c s = request k.code source p s := by
  cases c <;> simp only [asRequest, reduceCtorEq] at h <;> cases h <;> rfl

theorem admits_iff (k : Request) (p : List Byte) : k.admits p = true ↔
    match k with
    | .setTarget | .setFixed | .setCap => p.length = 6 ∨ p.length = 7 ∨ p.length = 10
    | .release | .releaseSlot | .readRequests | .clearShortfall | .calApply => p.length = 1
    | .releaseOwn | .readStatus | .saveSettings | .restart | .night | .day | .shed | .shedClear => p.length = 0
    | .blindStep | .writeRow | .writeProfile => p.length = 5
    | .readCells | .writeMasterSlot | .writePart => p.length = 4
    | .readSections | .readSensors => p.length = 2
    | .writeSensor => p.length = 3
    | .writeLinks => p.length = 10
    | .writeBlindTable => p.length = 33
    | .writeCellField =>
      if byteAt p 3 = 1 ∨ byteAt p 3 = 2 ∨ byteAt p 3 = 3 then ∃ m, m ≤ 29 ∧ p.length = 6 + 2 * m
      else ∃ m, m ≤ 59 ∧ p.length = 5 + m := by
  have wide : (∃ m, m ≤ 29 ∧ p.length = 6 + 2 * m) ↔ 6 ≤ p.length ∧ p.length ≤ 64 ∧ p.length % 2 = 0 :=
    ⟨fun ⟨m, _, _⟩ => by omega, fun _ => ⟨(p.length - 6) / 2, by omega, by omega⟩⟩
  have narrow : (∃ m, m ≤ 59 ∧ p.length = 5 + m) ↔ 5 ≤ p.length ∧ p.length ≤ 64 :=
    ⟨fun ⟨m, _, _⟩ => by omega, fun _ => ⟨p.length - 5, by omega, by omega⟩⟩
  cases k with
  | writeCellField =>
    simp only [wide, narrow, Request.admits]
    by_cases isWide : 1 ≤ byteAt p 3 ∧ byteAt p 3 ≤ 3
    · rw [if_pos isWide, if_pos (by omega)]
      simp [and_assoc]
    · rw [if_neg isWide, if_neg (by omega)]
      simp
  | setTarget | setFixed | setCap => simp [Request.admits, or_assoc]
  | _ => simp [Request.admits]

theorem permits_spelled (k : Request) : [Role.empty, .commissioning, .supervisor, .occupant, .blind].filter k.permits =
    match k with
    | .setTarget | .setFixed | .release | .releaseOwn => [.commissioning, .supervisor, .occupant]
    | .setCap | .releaseSlot | .clearShortfall | .night | .day | .shed | .shedClear => [.commissioning, .supervisor]
    | .blindStep => [.commissioning, .blind]
    | .readCells | .readSections | .readRequests | .readStatus | .readSensors =>
      [.commissioning, .supervisor, .occupant, .blind]
    | .writeCellField | .writeRow | .calApply | .writeMasterSlot | .writeBlindTable | .writeProfile | .writeSensor
    | .writeLinks | .writePart | .saveSettings | .restart => [.commissioning] := by cases k <;> rfl

/-! ### The checks in order -/

section
variable {s : State} {k : Request} {owner : Fin 8 → List Byte → State → Answer} {source : Byte} {p : List Byte}

theorem judge_source (h : s.senderSlot source = none) : s.judge k owner source p = .refuse s .refusedSource := by
  rw [judge_eq, h]

theorem judge_format {n : Fin 8} (sender : s.senderSlot source = some n) (h : k.admits p = false) :
    s.judge k owner source p = .refuse s .refusedFormat := by
  rw [judge_eq, sender]
  exact if_pos h

theorem judge_class {n : Fin 8} (sender : s.senderSlot source = some n) (format : k.admits p = true)
    (h : k.permits (s.zbi.slots.get n).role = false) : s.judge k owner source p = .refuse s .refusedClass := by
  rw [judge_eq, sender]
  exact (if_neg (by simp [format])).trans (if_pos h)

end

/-- Settles O21. -/
theorem checksRefuseInOrder : Obligations.ChecksRefuseInOrder := by
  refine ⟨fun c k source p s row free receiving address begun notFloor fits masters => ?_, fun k => by cases k <;> rfl, admits_iff, permits_spelled⟩
  have refused {status : Status} (judged : s.taking.judge k (ownerOf k) source p = .refuse s.taking status) :
      exec c s = .next (s.setZbi (repliedWith s.zbi status [])) := by
    have answer := (exec_of_asRequest row s).trans (request_eq_of_receiving (source := source) free receiving address begun notFloor fits k)
    rw [show s.clocked.enterExecuting.judge k (ownerOf k) source p = .refuse s.taking status from judged] at answer
    exact answer
  refine ⟨fun nobody => refused (judge_source (senderSlot_eq_none.mpr nobody)), fun n used held => ?_⟩
  have sender := senderSlot_eq_some masters used held
  exact ⟨sender, fun format => refused (judge_format sender format), fun format klass => refused (judge_class sender format klass)⟩

/-! ### The floor call -/

theorem onFloor_iff (k : Request) (p : List Byte) : k.onFloor p = true ↔
    k = .night ∨ k = .day ∨ k = .shed ∨ k = .shedClear ∨ (k = .setCap ∧ p.getD 5 0 = 0x00) := by
  cases k with
  | setCap =>
    have zero : byteAt p 5 = 0 ↔ p.getD 5 0 = 0x00 := ⟨fun h => BitVec.eq_of_toNat_eq h, fun h => by rw [byteAt, h]; rfl⟩
    simp [Request.onFloor, zero]
  | _ => simp [Request.onFloor]

/-- The owner of a request that is taken on the floor call leaves the ZBI to the end of the request. -/
theorem floorOwner_zbi {k : Request} {p : List Byte} (h : k.onFloor p = true) (n : Fin 8) (s : State) : (ownerOf k n p s).state.zbi = s.zbi := by
  rcases (onFloor_iff k p).mp h with rfl | rfl | rfl | rfl | ⟨rfl, _⟩
  · exact enterStandby_zbi s
  · exact leaveStandby_zbi s
  · show (takeShed n p s).state.zbi = s.zbi
    unfold takeShed
    split
    · rfl
    · exact setLatch_zbi s
  · show (takeShedClear n p s).state.zbi = s.zbi
    unfold takeShedClear
    split
    · rfl
    · split <;> rfl
  · rcases SetRequests.setEntry_cases .cap n p s with ⟨status, refused, _⟩ | ⟨sel, a, status, data, accepted, _⟩
    · rw [show ownerOf .setCap n p s = _ from refused]
      rfl
    · rw [show ownerOf .setCap n p s = _ from accepted]
      exact acceptEntry_zbi _ _ _

/-- A request on the floor call that is marked there and refused by a check of the ZBI is discarded in silence (R167). -/
theorem floor_refused {k : Request} {source : Byte} {p : List Byte} {s : State} {status : Status} (free : s.fsc.resetHeld = false)
    (receiving : s.zbi.transfer = .receiving) (address : s.zbi.address = some Config.floorCall) (begun : s.zbi.request = some [Config.floorCall])
    (fits : p.length ≤ 64) (judged : s.taking.judge k (ownerOf k) source p = .refuse s.taking status) :
    request k.code source p s = .next (s.setZbi (floorDone s.zbi)) := by
  rw [request_taken free receiving address begun k.code source p fits]
  simp only [takeCode, ofCode_code]
  rw [takeRequest_floor (s := s.clocked) address, show s.clocked.enterExecuting.judge k (ownerOf k) source p = .refuse s.taking status from judged]
  cases k.onFloor p <;> rfl

/-- Settles O22. -/
theorem floorCallActsInSilence : Obligations.FloorCallActsInSilence := by
  refine ⟨fun c k source p s row free receiving address begun fits unsound => ?_, fun c k source p n s row h notFloor => ?_, onFloor_iff⟩
  · rw [exec_of_asRequest row]
    rcases unsound with unmarked | nobody | format | ⟨n, sender, klass⟩
    · exact request_eq_of_unmarked free receiving address begun fits k unmarked
    · exact floor_refused free receiving address begun fits (judge_source nobody)
    · cases sender : s.senderSlot source with
      | none => exact floor_refused free receiving address begun fits (judge_source sender)
      | some n => exact floor_refused free receiving address begun fits (judge_format sender format)
    · cases format : k.admits p with
      | false => exact floor_refused free receiving address begun fits (judge_format sender format)
      | true => exact floor_refused free receiving address begun fits (judge_class sender format klass)
  · have own : (s.setZbi { s.zbi with address := some (writeAddress s.zbi.own), request := some [writeAddress s.zbi.own] }).Takes k source p n :=
      { running := h.running, receiving := h.receiving, address := rfl, begun := rfl, notFloor, fits := h.fits, sender := h.sender,
        format := h.format, klass := h.klass }
    refine ⟨_, _, (exec_of_asRequest row s).trans h.request_eq, (exec_of_asRequest row _).trans own.request_eq, ?_, ?_⟩
    · exact keepsBut_of (ct := fun _ => rfl) (slu := fun _ => rfl) (dle := fun _ => rfl) (rlu := fun _ => rfl) (lau := fun _ => rfl)
        (fdu := fun _ => rfl) (llc := fun _ => rfl) (fsc := fun _ => rfl) (sst := fun _ => rfl) (queue := fun _ => rfl)
    · rw [endFloorCall, setZbi_zbi, floorOwner_zbi h.marked]
      rfl

end Sys2Proof.Proofs.Checks
end

section
/-! PROOF. The end of a transfer at a STOP or a clock-low timeout (O24), and the reading of a reply (O23). -/

namespace Sys2Proof.Proofs.Transfers

open Sys2Proof.Machine Sys2Proof.Machine.State Sys2Proof.Proofs.Idle

/-! ### STOP and the clock-low timeout -/

theorem exec_stop {s : State} (free : s.fsc.resetHeld = false) (h : s.zbi.transfer ≠ .executing) :
    exec .stop s = .next s.clocked.endOrRestart := by
  rw [← stopWhole_eq h]
  exact unlessHeld_free free _

theorem clockLow_of_ne {s : State} (h : s.zbi.transfer ≠ .executing) (moving : s.zbi.transfer ≠ .idle) : s.clockLow = s.endOrRestart := by
  unfold clockLow
  split
  · contradiction
  · contradiction
  all_goals rfl

theorem exec_clockLowTimeout {s : State} (free : s.fsc.resetHeld = false) : exec .clockLowTimeout s = .next s.clockLow :=
  unlessHeld_free free _

theorem keepsBut_endTransfer (s : State) : s.keepsBut [.zbi] s.endTransfer :=
  keepsBut_of (ct := fun _ => rfl) (slu := fun _ => rfl) (dle := fun _ => rfl) (rlu := fun _ => rfl) (lau := fun _ => rfl)
    (fdu := fun _ => rfl) (llc := fun _ => rfl) (fsc := fun _ => rfl) (sst := fun _ => rfl) (queue := fun _ => rfl)

theorem keepsBut_clocked (s : State) : s.keepsBut [.zbi] s.clocked :=
  keepsBut_of (ct := fun _ => rfl) (slu := fun _ => rfl) (dle := fun _ => rfl) (rlu := fun _ => rfl) (lau := fun _ => rfl)
    (fdu := fun _ => rfl) (llc := fun _ => rfl) (fsc := fun _ => rfl) (sst := fun _ => rfl) (queue := fun _ => rfl)

/-- With no restart pending a transfer ends in IDLE; the lines are at rest but for the count of ZCL low (R164, R166). -/
theorem endOrRestart_of_none {s : State} (h : s.fsc.restartPending = false) : s.endOrRestart = s.endTransfer := if_neg (by simp [h])

theorem endOrRestart_of_pending {s : State} (h : s.fsc.restartPending = true) : s.endOrRestart = s.fullReset := if_pos h

/-- A rise of ZDA with ZCL high is a STOP, as one given as an event (R159, R164). -/
theorem exec_zdaRises {s : State} (free : s.fsc.resetHeld = false) (hold : s.zbi.lines.hold = none) (high : s.zbi.lines.zcl = true)
    (zda : s.zbi.lines.zda = false) (pulls : s.zbi.lines.pullsZda = false) (low : s.zbi.lines.low = none) :
    exec (.addressByte (.lines true true)) s = exec .stop (s.setZbi { s.zbi with lines := { s.zbi.lines with zcl := true, zda := true } }) := by
  have change : exec (.addressByte (.lines true true)) s = .next (s.driven true true).stopCondition := by
    show Host.Outcome.next (if s.fsc.resetHeld = true then _ else s.linesChange true true) = _
    rw [if_neg (by simp [free]), linesChange_of_stop high hold zda pulls]
  rw [change]
  by_cases executing : s.zbi.transfer = .executing
  · have stop : exec .stop (s.driven true true) = .next (s.driven true true) := by
      refine (unlessHeld_free (s := s.driven true true) free _).trans ?_
      simp [stopWhole, executing]
    refine Eq.trans ?_ stop.symm
    simp [stopCondition, executing]
  · refine Eq.trans ?_ (exec_stop (s := s.driven true true) free executing).symm
    have stop : (s.driven true true).stopCondition = (s.driven true true).endOrRestart := by
      unfold stopCondition
      split
      · contradiction
      all_goals rfl
    rw [stop]
    cases pending : s.fsc.restartPending with
    | true => rw [endOrRestart_of_pending (s := s.driven true true) pending, endOrRestart_of_pending (s := (s.driven true true).clocked) pending]; rfl
    | false =>
      have quiet : (s.driven true true).zbi.lines.quiet = (s.driven true true).clocked.zbi.lines.quiet := by
        simp [BusLines.quiet, afterBytes, low]
      rw [endOrRestart_of_none (s := s.driven true true) pending, endOrRestart_of_none (s := (s.driven true true).clocked) pending, endTransfer, endTransfer, quiet]
      rfl

/-- Settles O24. -/
theorem transferEndsAtStop : Obligations.TransferEndsAtStop := by
  refine ⟨fun c s event free notExecuting noRestart => ⟨fun acts => ?ends, ?idle⟩, fun s free pending notExecuting => ⟨?restart, fun moving => ?same⟩,
    fun s free executing held => ?held, fun s => exec_zdaRises⟩
  case ends =>
    rcases event with rfl | rfl
    · refine ⟨_, exec_stop free notExecuting, ?_⟩
      rw [endOrRestart_of_none (s := s.clocked) noRestart]
      refine ⟨keepsBut_trans (keepsBut_clocked s) (keepsBut_endTransfer _), rfl, rfl, rfl, rfl, rfl, rfl, rfl, ?_⟩
      cases high : s.zbi.lines.zcl <;> simp [endTransfer, BusLines.quiet, afterBytes, high]
    · have moving : s.zbi.transfer ≠ .idle := acts.resolve_left (by simp)
      refine ⟨_, exec_clockLowTimeout free, ?_⟩
      rw [clockLow_of_ne notExecuting moving, endOrRestart_of_none noRestart]
      refine ⟨keepsBut_endTransfer s, rfl, rfl, rfl, rfl, rfl, rfl, rfl, ?_⟩
      simp [endTransfer, BusLines.quiet, afterBytes]
  case idle =>
    rintro rfl idle
    rw [exec_clockLowTimeout free, clockLow, idle]
  case restart =>
    refine ⟨_, exec_stop free notExecuting, ?_⟩
    rw [endOrRestart_of_pending (s := s.clocked) pending]
    exact ⟨rfl, rfl, rfl, rfl, fun l => fullReset_line s l, keepsBut_of (ct := fun _ => rfl) (dle := fun _ => rfl) (rlu := fun _ => rfl)
      (lau := fun _ => rfl) (fdu := fun _ => rfl) (llc := fun _ => rfl), rfl, rfl⟩
  case same =>
    rw [exec_clockLowTimeout free, clockLow_of_ne notExecuting moving, exec_stop free notExecuting, endOrRestart_of_pending pending,
      endOrRestart_of_pending (s := s.clocked) pending]
    rfl
  case held =>
    rw [exec_clockLowTimeout free, clockLow, executing]
    simp [held]

/-! ### Reading a reply -/

/-- Byte `i` of what is sent of a reply: FFh past its end, and once the master has not acknowledged a byte (R164). -/
def sentByte (r : Reply) (stopped : Bool) (i : Nat) : Byte := if stopped = true then 0xFF else r.bytes.getD i 0xFF

theorem replyByte_eq {z : ZoneBus} {r : Reply} (h : z.reply = some r) (i : Nat) : replyByte z i = sentByte r z.stopped i := by
  simp [replyByte, sentByte, h]

theorem sending_of_replying {s : State} (h : s.zbi.transfer = .replying) (data : s.zbi.lines.addressing = false) : s.sending = true := by
  simp [sending, h, data]

/-- The part pulls ZDA low for each bit that is 0 of the byte it sends (R159, R164). -/
theorem pullsForBit_eq {s : State} {r : Reply} (h : s.zbi.transfer = .replying) (data : s.zbi.lines.addressing = false)
    (held : s.zbi.reply = some r) :
    s.pullsForBit = !(sentByte r s.zbi.stopped s.zbi.sent.length).getLsbD (7 - s.zbi.lines.bits.length) := by
  rw [pullsForBit, sending_of_replying h data, replyByte_eq held, Bool.true_and]

/-- Without the part held in reset, new levels are followed. -/
theorem exec_lines {s : State} (free : s.fsc.resetHeld = false) (zcl zda : Bool) :
    exec (.addressByte (.lines zcl zda)) s = .next (s.linesChange zcl zda) := by
  show Host.Outcome.next (if s.fsc.resetHeld = true then _ else s.linesChange zcl zda) = _
  rw [if_neg (by simp [free])]

/-- The part right after a fall of ZCL: a stretch of ZCL low begins (R166). -/
def fallen (s : State) (zda : Bool) : State := s.setLines { s.zbi.lines with zcl := false, zda, low := some 0 }

theorem exec_falls_eighth {s : State} (free : s.fsc.resetHeld = false) (hold : s.zbi.lines.hold = none) (high : s.zbi.lines.zcl = true)
    (full : s.zbi.lines.bits.length = 8) (zda : Bool) : exec (.addressByte (.lines false zda)) s = .next (fallen s zda).byteEnds := by
  rw [exec_lines free, linesChange_of_fall high hold, clockFalls_eighth (s := s.driven false zda) full]
  rfl

theorem exec_falls_ninth {s : State} (free : s.fsc.resetHeld = false) (hold : s.zbi.lines.hold = none) (high : s.zbi.lines.zcl = true)
    (ninth : s.zbi.lines.bits.length = 9) (zda : Bool) : exec (.addressByte (.lines false zda)) s = .next (fallen s zda).ackEnds := by
  rw [exec_lines free, linesChange_of_fall high hold, clockFalls_ninth (s := s.driven false zda) ninth]
  rfl

/-- The part right after a rise of ZCL: the level of ZDA is the next bit (R159). -/
def risen (s : State) (zda : Bool) : State :=
  s.setLines { s.zbi.lines with zcl := true, zda, bits := s.zbi.lines.bits ++ [zda && !s.zbi.lines.pullsZda], low := none }

theorem exec_rises {s : State} (free : s.fsc.resetHeld = false) (hold : s.zbi.lines.hold = none) (low : s.zbi.lines.zcl = false)
    (within : s.zbi.lines.bits.length ≤ 8) (zda : Bool) :
    exec (.addressByte (.lines true zda)) s = .next
      (if s.zbi.lines.bits.length = 8 ∧ s.sending = true then (risen s zda).readReply 1 (!(zda && !s.zbi.lines.pullsZda)) else risen s zda) := by
  rw [exec_lines free, linesChange_of_rise low hold, clockRises, driven_zbi, if_pos within]
  rfl

theorem byteEnds_of_sending {s : State} (h : s.sending = true) : s.byteEnds = s.setLines { s.zbi.lines with pullsZda := false } := if_pos h

/-- Outside EXECUTING the acknowledge bit ends with the next byte begun. -/
theorem ackEnds_of_ne {s : State} (h : s.zbi.transfer ≠ .executing) :
    s.ackEnds = s.setLines { s.zbi.lines with
      addressing := false, bits := [], pullsZda := (s.setLines { s.zbi.lines with addressing := false, bits := [] }).pullsForBit } := by
  unfold ackEnds
  split
  · contradiction
  all_goals rfl

/-- The master clocks `n` bytes of the reply held (R164). -/
theorem readReply_of_replying {s : State} (h : s.zbi.transfer = .replying) {n : Nat} (some : 0 < n) (ackLast : Bool) :
    s.readReply n ackLast = s.setZbi { s.zbi with sent := s.zbi.sent ++ replyBytes s.zbi n, stopped := s.zbi.stopped || !ackLast } := by
  rw [readReply, h]
  simp [some]

section
variable {s : State} {r : Reply} {zda : Bool} (free : s.fsc.resetHeld = false) (replying : s.zbi.transfer = .replying)
  (held : s.zbi.reply = some r) (hold : s.zbi.lines.hold = none)
include free replying held hold

/-- ZCL falls before a bit of a byte sent: the part drives the bit. -/
theorem falls_bit (high : s.zbi.lines.zcl = true) (data : s.zbi.lines.addressing = false) (within : s.zbi.lines.bits.length < 8) :
    exec (.addressByte (.lines false zda)) s = .next (s.setZbi { s.zbi with lines := { s.zbi.lines with
      zcl := false, zda, low := some 0,
      pullsZda := !(sentByte r s.zbi.stopped s.zbi.sent.length).getLsbD (7 - s.zbi.lines.bits.length) } }) := by
  rw [exec_lines free, linesChange_of_fall high hold, clockFalls_within (s := s.driven false zda) within,
    pullsForBit_eq (s := s.driven false zda) replying data held]
  rfl

omit held in
/-- ZCL falls after the eighth bit: the part releases ZDA for the master's acknowledge. -/
theorem falls_eighth (high : s.zbi.lines.zcl = true) (data : s.zbi.lines.addressing = false) (full : s.zbi.lines.bits.length = 8) :
    exec (.addressByte (.lines false zda)) s = .next (s.setZbi { s.zbi with lines := { s.zbi.lines with
      zcl := false, zda, low := some 0, pullsZda := false } }) := by
  rw [exec_falls_eighth free hold high full, byteEnds_of_sending (s := fallen s zda) (sending_of_replying (s := fallen s zda) replying data)]
  rfl

/-- ZCL falls after an acknowledge bit: the first bit of the next byte. -/
theorem falls_ninth (high : s.zbi.lines.zcl = true) (ninth : s.zbi.lines.bits.length = 9) :
    exec (.addressByte (.lines false zda)) s = .next (s.setZbi { s.zbi with lines := { s.zbi.lines with
      zcl := false, zda, low := some 0, addressing := false, bits := [],
      pullsZda := !(sentByte r s.zbi.stopped s.zbi.sent.length).getLsbD 7 } }) := by
  have drives := pullsForBit_eq (s := (fallen s zda).setLines { (fallen s zda).zbi.lines with addressing := false, bits := [] }) replying rfl held
  rw [exec_falls_ninth free hold high ninth, ackEnds_of_ne (s := fallen s zda) (by simp [fallen, replying]), drives]
  rfl

/-- ZCL rises in an acknowledge bit: the byte has been sent, and high is no acknowledgement. -/
theorem rises_ack (low : s.zbi.lines.zcl = false) (data : s.zbi.lines.addressing = false) (full : s.zbi.lines.bits.length = 8) :
    exec (.addressByte (.lines true zda)) s = .next (s.setZbi { s.zbi with
      sent := s.zbi.sent ++ [sentByte r s.zbi.stopped s.zbi.sent.length], stopped := s.zbi.stopped || (zda && !s.zbi.lines.pullsZda),
      lines := { s.zbi.lines with
        zcl := true, zda, bits := s.zbi.lines.bits ++ [zda && !s.zbi.lines.pullsZda], low := none } }) := by
  rw [exec_rises free hold low (by omega), if_pos ⟨full, sending_of_replying replying data⟩,
    readReply_of_replying (s := risen s zda) replying (by omega), Bool.not_not]
  have one : replyBytes (risen s zda).zbi 1 = [sentByte r s.zbi.stopped s.zbi.sent.length] :=
    congrArg (fun b => [b]) (replyByte_eq (z := (risen s zda).zbi) held _)
  rw [one]
  rfl

end

/-- Whole bytes read of a reply: what is sent, and the first bit of the next byte (R164). -/
theorem exec_replyRead {s : State} {r : Reply} (free : s.fsc.resetHeld = false) (replying : s.zbi.transfer = .replying)
    (held : s.zbi.reply = some r) {n : Nat} (some : 0 < n) (ackLast : Bool) :
    exec (.replyRead n ackLast) s = .next (s.setZbi { s.zbi with
      sent := s.zbi.sent ++ replyBytes s.zbi n, stopped := s.zbi.stopped || !ackLast,
      lines := { afterBytes s.zbi.lines with
        pullsZda := !s.zbi.lines.zcl && !(sentByte r (s.zbi.stopped || !ackLast) (s.zbi.sent.length + n)).getLsbD 7 } }) := by
  have read := readReply_of_replying (s := s.clocked) replying some ackLast
  have drives := pullsForBit_eq (s := s.clocked.readReply n ackLast) (r := r) (by rw [read]; exact replying) (by rw [read]; rfl) (by rw [read]; exact held)
  have count : (s.clocked.readReply n ackLast).zbi.sent.length = s.zbi.sent.length + n := by
    rw [read]
    simp [replyBytes]
  refine (unlessHeld_free free fun s => s.readWhole n ackLast).trans ?_
  rw [readWhole_eq replying some, driveNext, drives, count, read]
  rfl

/-- Settles O23. -/
theorem replyReadSendsReply : Obligations.ReplyReadSendsReply := by
  refine ⟨fun s r n ackLast free replying held some => ?read, fun s r zda free replying held hold => ⟨falls_bit free replying held hold,
    falls_eighth free replying hold, falls_ninth free replying held hold, rises_ack free replying held hold⟩,
    fun status => by cases status <;> rfl⟩
  refine ⟨_, exec_replyRead free replying held some ackLast, keepsBut_of, ?_, by simp [replyBytes], fun i => ⟨fun before => ?_, fun after inside => ?_⟩⟩
  · have next : sentByte r (s.zbi.stopped || !ackLast) (s.zbi.sent.length + n) =
        if s.zbi.stopped = true ∨ ackLast = false then 0xFF else r.bytes.getD (s.zbi.sent.length + n) 0xFF := by
      rw [sentByte]
      simp only [Bool.or_eq_true, Bool.not_eq_true']
    rw [next]
    rfl
  · rw [setZbi_zbi]
    exact List.getD_append _ _ _ _ before
  · rw [setZbi_zbi, List.getD_append_right _ _ _ _ after]
    have within : i - s.zbi.sent.length < n := by omega
    rw [replyBytes, List.getD_eq_getElem _ _ (by simpa using within), List.getElem_map, List.getElem_range, replyByte_eq held,
      Nat.add_sub_cancel' after]
    rfl

end Sys2Proof.Proofs.Transfers
end

section
/-! PROOF. The answer to an address byte, whole and bit by bit (O19). -/

namespace Sys2Proof.Proofs.Addressing

open Sys2Proof.Machine Sys2Proof.Machine.State Sys2Proof.Proofs.Idle Sys2Proof.Proofs.Transfers

/-! ### Whole address bytes -/

/-- An address byte that opens a request: the own address for write, or the floor call (R161). -/
def Opens (s : State) (byte : Byte) : Prop :=
  s.fsc.part ≠ .starting ∧ s.fsc.restartPending = false ∧ (byte = writeAddress s.zbi.own ∨ byte = 0x00)

/-- An address byte that reads the reply: the own address for read (R161, R165). -/
def Reads (s : State) (byte : Byte) : Prop :=
  s.fsc.part ≠ .starting ∧ byte = readAddress s.zbi.own ∧ (s.fsc.restartPending = false ∨ s.zbi.reply.isSome = true)

section
variable {s : State} {byte : Byte} (awake : s.zbi.transfer ≠ .executing)
include awake

/-- The answer to an address byte outside EXECUTING, by the part's state and the byte (R161). -/
theorem address_eq :
    s.address byte =
      match s.fsc.part with
      | .starting => s.ignoreAddress
      | .run | .standby =>
        if s.fsc.restartPending then
          if byte = readAddress s.zbi.own ∧ s.zbi.reply.isSome = true then s.beginReply else s.ignoreAddress
        else if byte = writeAddress s.zbi.own ∨ byte = Config.floorCall then s.beginRequest byte
        else if byte = readAddress s.zbi.own then s.beginReply
        else s.ignoreAddress := by
  unfold State.address
  split
  · contradiction
  all_goals rfl

theorem address_of_running (running : s.fsc.part ≠ .starting) :
    s.address byte =
      if s.fsc.restartPending then
        if byte = readAddress s.zbi.own ∧ s.zbi.reply.isSome = true then s.beginReply else s.ignoreAddress
      else if byte = writeAddress s.zbi.own ∨ byte = 0x00 then s.beginRequest byte
      else if byte = readAddress s.zbi.own then s.beginReply
      else s.ignoreAddress := by
  rw [address_eq awake]
  split
  · contradiction
  all_goals rfl

theorem address_opens (h : Opens s byte) : s.address byte = s.beginRequest byte := by
  obtain ⟨running, noRestart, own⟩ := h
  rw [address_of_running awake running, if_neg (by simp [noRestart]), if_pos own]

theorem address_reads (closed : ¬Opens s byte) (h : Reads s byte) : s.address byte = s.beginReply := by
  obtain ⟨running, own, may⟩ := h
  rw [address_of_running awake running]
  cases pending : s.fsc.restartPending with
  | true => exact (if_pos rfl).trans (if_pos ⟨own, may.resolve_left (by simp [pending])⟩)
  | false =>
    have notWrite : ¬(byte = writeAddress s.zbi.own ∨ byte = 0x00) := fun write => closed ⟨running, pending, write⟩
    exact (if_neg (by simp)).trans ((if_neg notWrite).trans (if_pos own))

theorem address_ignored (closed : ¬Opens s byte) (unread : ¬Reads s byte) : s.address byte = s.ignoreAddress := by
  by_cases starting : s.fsc.part = .starting
  · rw [address_eq awake, starting]
  · rw [address_of_running awake starting]
    cases pending : s.fsc.restartPending with
    | true => exact (if_pos rfl).trans (if_neg fun read => unread ⟨starting, read.1, .inr read.2⟩)
    | false =>
      have notWrite : ¬(byte = writeAddress s.zbi.own ∨ byte = 0x00) := fun write => closed ⟨starting, pending, write⟩
      have notRead : ¬byte = readAddress s.zbi.own := fun read => unread ⟨starting, read, .inl pending⟩
      exact (if_neg (by simp)).trans ((if_neg notWrite).trans (if_neg notRead))

/-- The answer changes the ZBI alone, and of it neither the master table nor the addresses. -/
theorem address_keeps : s.keepsBut [.zbi] (s.address byte) ∧ (s.address byte).zbi.slots = s.zbi.slots ∧
    (s.address byte).zbi.own = s.zbi.own ∧ (s.address byte).zbi.pendingOwn = s.zbi.pendingOwn := by
  have one (z : ZoneBus) : s.keepsBut [.zbi] (s.setZbi z) :=
    keepsBut_of (ct := fun _ => rfl) (slu := fun _ => rfl) (dle := fun _ => rfl) (rlu := fun _ => rfl) (lau := fun _ => rfl)
      (fdu := fun _ => rfl) (llc := fun _ => rfl) (fsc := fun _ => rfl) (sst := fun _ => rfl) (queue := fun _ => rfl)
  by_cases opens : Opens s byte
  · rw [address_opens awake opens]; exact ⟨one _, rfl, rfl, rfl⟩
  by_cases reads : Reads s byte
  · rw [address_reads awake opens reads]; exact ⟨one _, rfl, rfl, rfl⟩
  · rw [address_ignored awake opens reads]; exact ⟨one _, rfl, rfl, rfl⟩

end

/-- The state after a whole address byte: the answer, with the lines after it and the next bit on ZDA (R161). -/
def addressed (s : State) (byte : Byte) : State := ((s.address byte).setLines { s.zbi.lines.clocked with inTransfer := true }).driveNext

theorem exec_address {s : State} (free : s.fsc.resetHeld = false) (awake : s.zbi.transfer ≠ .executing) (byte : Byte) :
    exec (.addressByte (.address byte)) s = .next (addressed s byte) := by
  show Host.Outcome.next (if s.fsc.resetHeld = true then s else s.addressWhole byte) = _
  rw [if_neg (by simp [free]), addressWhole_eq awake]
  rfl

theorem addressed_zbi (s : State) (byte : Byte) :
    (addressed s byte).zbi = { (s.address byte).zbi with lines := (addressed s byte).zbi.lines } := rfl

theorem addressed_lines (s : State) (byte : Byte) :
    (addressed s byte).zbi.lines = { afterBytes s.zbi.lines with inTransfer := true, pullsZda := (addressed s byte).zbi.lines.pullsZda } := rfl

/-- Every status begins with a bit that is 0 (section 11.1). -/
theorem status_bit (status : Status) : status.code.getLsbD 7 = false := by cases status <;> rfl

/-- Past an address byte the part drives ZDA only where it replies: the first bit of the status, which is 0. -/
theorem addressed_pulls (s : State) (byte : Byte) :
    ((s.address byte).zbi.transfer ≠ .replying → (addressed s byte).zbi.lines.pullsZda = false) ∧
    (∀ r, (s.address byte).zbi.transfer = .replying → (s.address byte).zbi.reply = some r → (s.address byte).zbi.stopped = false →
      (s.address byte).zbi.sent = [] → (addressed s byte).zbi.lines.pullsZda = !s.zbi.lines.zcl) := by
  have drives : (addressed s byte).zbi.lines.pullsZda =
      (!s.zbi.lines.zcl && ((s.address byte).setLines { s.zbi.lines.clocked with inTransfer := true }).pullsForBit) := rfl
  refine ⟨fun silent => ?_, fun r replying held going none => ?_⟩
  · rw [drives, pullsForBit, sending, setLines_zbi, decide_eq_false silent]
    simp
  · rw [drives, pullsForBit_eq (s := (s.address byte).setLines { s.zbi.lines.clocked with inTransfer := true }) replying rfl held, setLines_zbi,
      going, none]
    show (!s.zbi.lines.zcl && !(sentByte r false 0).getLsbD 7) = _
    rw [show sentByte r false 0 = r.status.code from rfl, status_bit]
    simp

/-! ### The lines -/

section
variable {s : State} (free : s.fsc.resetHeld = false) (awake : s.zbi.transfer ≠ .executing) (hold : s.zbi.lines.hold = none)
include free awake hold

/-- A START or repeated START: an address byte follows, and a request being received is discarded (R159, R162). -/
theorem exec_starts (high : s.zbi.lines.zcl = true) (zda : s.zbi.lines.zda = true) (released : s.zbi.lines.pullsZda = false) :
    exec (.addressByte (.lines true false)) s = .next (s.setZbi { (if s.zbi.transfer = .receiving then
        { s.zbi with transfer := .notAddressed, address := none, request := none, acked := false } else s.zbi) with
      lines := { s.zbi.lines with zcl := true, zda := false, inTransfer := true, addressing := true, bits := [] } }) := by
  rw [exec_lines free, linesChange_of_start high hold zda released, startCondition, driven_zbi]
  cases transfer : s.zbi.transfer with
  | executing => contradiction
  | receiving => simp [discardRequest, setLines, driven, released, State.setZbi]
  | idle | replyReady | replying | notAddressed => simp [setLines, driven, released, State.setZbi]

omit awake in
/-- ZCL rises on a bit of the byte under way. -/
theorem exec_samples (low : s.zbi.lines.zcl = false) (within : s.zbi.lines.bits.length < 8) (zda : Bool) :
    exec (.addressByte (.lines true zda)) s = .next (risen s zda) := by
  rw [exec_rises free hold low (by omega), if_neg (by omega)]

omit awake in
/-- ZCL falls after the eighth bit of an address byte: it is answered as the whole byte is (R159, R161). -/
theorem exec_falls_address (high : s.zbi.lines.zcl = true) (addressing : s.zbi.lines.addressing = true) {byte : Byte}
    (bits : s.zbi.lines.bits = (List.range 8).map fun i => byte.getLsbD (7 - i)) (zda : Bool) :
    exec (.addressByte (.lines false zda)) s = .next ((s.address byte).setLines
      { s.zbi.lines with zcl := false, zda, low := some 0, pullsZda := (s.address byte).zbi.acked }) := by
  have receives : (fallen s zda).sending = false := by simp [sending, fallen, addressing]
  have spelled : byteOfBits (fallen s zda).zbi.lines.bits = byte := by
    rw [fallen, setLines_zbi, bits, byteOfBits_of_byte]
  have answer : (fallen s zda).clocked.address byte = (s.address byte).setLines (fallen s zda).zbi.lines.clocked :=
    setLines_address s (fallen s zda).zbi.lines.clocked byte
  rw [exec_falls_eighth free hold high (by simp [bits]), byteEnds_of_received receives, spelled,
    if_pos (show (fallen s zda).zbi.lines.addressing = true from addressing), answer]
  rfl

/-- ZCL falls at the end of an acknowledge bit where the part does not reply: the next byte is the other side's. -/
theorem exec_falls_next (high : s.zbi.lines.zcl = true) (ninth : s.zbi.lines.bits.length = 9) (silent : s.zbi.transfer ≠ .replying) (zda : Bool) :
    exec (.addressByte (.lines false zda)) s = .next (s.setZbi { s.zbi with lines :=
      { s.zbi.lines with zcl := false, zda, addressing := false, bits := [], pullsZda := false, low := some 0 } }) := by
  have drives : ((fallen s zda).setLines { (fallen s zda).zbi.lines with addressing := false, bits := [] }).pullsForBit = false := by
    simp [pullsForBit, sending, fallen, silent]
  rw [exec_falls_ninth free hold high ninth, ackEnds_of_ne (s := fallen s zda) awake, drives]
  rfl

end

/-- Settles O19. -/
theorem addressByteAnswered : Obligations.AddressByteAnswered := by
  refine ⟨fun s byte free awake => ?whole, fun s zcl zda free awake hold => ⟨?starts, ?rises, ?eighth, ?ninth⟩⟩
  case whole =>
    obtain ⟨keeps, slots, own, pendingOwn⟩ := address_keeps (byte := byte) awake
    have keepsLines : (s.address byte).keepsBut [.zbi] (addressed s byte) :=
      keepsBut_of (ct := fun _ => rfl) (slu := fun _ => rfl) (dle := fun _ => rfl) (rlu := fun _ => rfl) (lau := fun _ => rfl)
        (fdu := fun _ => rfl) (llc := fun _ => rfl) (fsc := fun _ => rfl) (sst := fun _ => rfl) (queue := fun _ => rfl)
    obtain ⟨silence, drive⟩ := addressed_pulls s byte
    refine ⟨addressed s byte, exec_address free awake byte, keepsBut_trans keeps keepsLines, slots, own, pendingOwn, addressed_lines s byte,
      fun opens => ?_, fun closed reads => ?_, fun closed unread => ?_⟩
    · have answer := address_opens awake (byte := byte) opens
      rw [addressed_zbi, answer]
      refine ⟨rfl, rfl, rfl, rfl, rfl, silence ?_⟩
      rw [answer]
      exact Transfer.noConfusion
    · have answer := address_reads awake (byte := byte) closed reads
      rw [addressed_zbi, answer]
      refine ⟨rfl, rfl, rfl, rfl, rfl, drive (s.zbi.reply.getD (composeReply s.zbi.own .noRequest [])) ?_ ?_ ?_ ?_⟩ <;> rw [answer] <;> rfl
    · have answer := address_ignored awake (byte := byte) closed unread
      rw [addressed_zbi, answer]
      refine ⟨rfl, rfl, rfl, rfl, silence ?_⟩
      rw [answer]
      exact Transfer.noConfusion
  case starts =>
    rintro high rfl wasHigh released rfl
    exact exec_starts free awake hold high wasHigh released
  case rises =>
    rintro low rfl within
    exact exec_samples free hold low within zda
  case eighth =>
    rintro byte high rfl addressing bits
    refine ⟨_, _, exec_falls_address free hold high addressing bits zda, exec_address free awake byte, ?_, rfl⟩
    obtain ⟨keeps, -⟩ := address_keeps (byte := byte) awake
    exact keepsBut_trans keeps (keepsBut_of (ct := fun _ => rfl) (slu := fun _ => rfl) (dle := fun _ => rfl) (rlu := fun _ => rfl)
      (lau := fun _ => rfl) (fdu := fun _ => rfl) (llc := fun _ => rfl) (fsc := fun _ => rfl) (sst := fun _ => rfl) (queue := fun _ => rfl))
  case ninth =>
    rintro high rfl ninth silent
    exact exec_falls_next free awake hold high ninth silent zda

end Sys2Proof.Proofs.Addressing
end

section
/-! PROOF. A request received byte by byte: kept, discarded, taken, or of an unknown code (O20). -/

namespace Sys2Proof.Proofs.Receiving

open Sys2Proof.Machine Sys2Proof.Machine.State Sys2Proof.Proofs.Transfers

/-! ### One whole byte -/

/-- The part after a byte that is kept. -/
def kept (s : State) (bytes : List Byte) : State :=
  s.setZbi { s.zbi with request := some bytes, acked := true, lines := afterBytes s.zbi.lines }

/-- The part after a request that is discarded. -/
def discarded (s : State) : State :=
  s.setZbi { s.zbi with transfer := .notAddressed, address := none, request := none, acked := false, lines := afterBytes s.zbi.lines }

theorem exec_byte {s : State} (free : s.fsc.resetHeld = false) (b : Byte) : exec (.addressByte (.byte b)) s = .next (s.byteWritten b) := by
  show Host.Outcome.next (if s.fsc.resetHeld = true then s else s.byteWritten b) = _
  rw [if_neg (by simp [free])]

/-- While RSTn holds the part a byte does nothing, and else it is received (R144, R162). -/
theorem happen_byte (s : State) (b : Byte) :
    s.happen (.addressByte (.byte b)) = if s.fsc.resetHeld = true then s else s.byteWritten b :=
  happen_eq rfl

theorem byteWritten_discarded {s : State} (receiving : s.zbi.transfer = .receiving) {b : Byte}
    (h : s.clocked.receiveByte b = s.clocked.discardRequest) : s.byteWritten b = discarded s := by
  rw [byteWritten_eq (by simp [receiving]) (by simp [receiving]), h, leaveExecuting_of_ne (by simp [discardRequest])]
  rfl

section
variable {s : State} (receiving : s.zbi.transfer = .receiving)
include receiving

/-- The source and code bytes are kept. -/
theorem byteWritten_head {bytes : List Byte} (begun : s.zbi.request = some bytes) (few : bytes.length < 3) (b : Byte) :
    s.byteWritten b = kept s (bytes ++ [b]) :=
  byteWritten_kept receiving b begun fun _ _ _ _ _ e => by
    have := congrArg List.length e
    simp only [List.length_append, List.length_cons, List.length_nil] at this
    omega

/-- The length byte is kept up to 64 and else discards the request. -/
theorem byteWritten_length {bytes : List Byte} (begun : s.zbi.request = some bytes) (three : bytes.length = 3) (b : Byte) :
    s.byteWritten b = if 64 < b.toNat then discarded s else kept s (bytes ++ [b]) := by
  obtain ⟨address, source, code, rfl⟩ := List.length_eq_three.mp three
  split
  case isTrue long => exact byteWritten_discarded receiving (receiveByte_tooLong (s := s.clocked) receiving begun long)
  case isFalse short =>
    refine byteWritten_kept receiving b begun fun _ _ _ _ _ e => ?_
    simp only [List.cons_append, List.nil_append, List.cons.injEq] at e
    obtain ⟨rfl, rfl, rfl, rfl, rfl⟩ := e
    exact ⟨by omega, Nat.zero_le _⟩

variable {address source code length : Byte} {p : List Byte} (begun : s.zbi.request = some (address :: source :: code :: length :: p))
  (fits : length.toNat ≤ 64)
include begun fits

/-- Payload bytes up to the stated length are kept. -/
theorem byteWritten_payload (within : p.length < length.toNat) (b : Byte) :
    s.byteWritten b = kept s (address :: source :: code :: length :: p ++ [b]) :=
  byteWritten_kept receiving b begun fun _ _ _ _ _ e => by
    simp only [List.cons_append, List.cons.injEq] at e
    obtain ⟨rfl, rfl, rfl, rfl, rfl⟩ := e
    exact ⟨fits, by simpa using within⟩

variable (full : p.length = length.toNat)
include full

theorem byteWritten_unsound {b : Byte} (unsound : byteSum (address :: source :: code :: length :: p ++ [b]) ≠ 0) :
    s.byteWritten b = discarded s :=
  byteWritten_discarded receiving ((receiveByte_check (s := s.clocked) receiving begun fits full).trans (if_neg unsound))

theorem byteWritten_sound {b : Byte} (sound : byteSum (address :: source :: code :: length :: p ++ [b]) = 0) :
    s.byteWritten b = (s.clocked.takeCode code source p).leaveExecuting := by
  rw [byteWritten_eq (by simp [receiving]) (by simp [receiving]),
    (receiveByte_check (s := s.clocked) receiving begun fits full).trans (if_pos sound)]

/-- A sound check byte takes the request as its row does from the address byte on. -/
theorem exec_sound (free : s.fsc.resetHeld = false) (addressed : s.zbi.address = some address) {b : Byte}
    (sound : byteSum (address :: source :: code :: length :: p ++ [b]) = 0) :
    exec (.addressByte (.byte b)) s = request code source p (s.setZbi { s.zbi with request := some [address] }) := by
  rw [exec_byte free, byteWritten_sound receiving begun fits full sound,
    request_taken (s := s.setZbi { s.zbi with request := some [address] }) free receiving addressed rfl code source p (by omega)]
  rfl

end

/-! ### Bytes one after another -/

/-- A run of bytes is its bytes one after another, held in reset or not. -/
theorem foldl_happen_byte (l : List Byte) (s : State) :
    l.foldl (fun t b => t.happen (.addressByte (.byte b))) s = if s.fsc.resetHeld = true then s else s.bytesWritten l := by
  induction l generalizing s with
  | nil => simp
  | cons b l ih =>
    rw [List.foldl_cons, happen_byte, ih, bytesWritten_cons]
    cases held : s.fsc.resetHeld with
    | true => simp [held]
    | false => simp [(Effects.byteWritten_effects held b).2]

/-- Once a request is discarded, further bytes change nothing. -/
theorem bytesWritten_discarded (s : State) (l : List Byte) : (discarded s).bytesWritten l = discarded s := by
  induction l with
  | nil => rfl
  | cons b l ih =>
    rw [bytesWritten_cons, show (discarded s).byteWritten b = discarded s from rfl, ih]

/-- A request of too great a length, or with a check byte that leaves its sum other than 0, is discarded (R162). -/
theorem bytesWritten_unsound {s : State} (receiving : s.zbi.transfer = .receiving) {address : Byte} (begun : s.zbi.request = some [address])
    {source code length check : Byte} {p : List Byte} (unsound : 64 < length.toNat ∨
      (p.length = length.toNat ∧ byteSum (address :: source :: code :: length :: (p ++ [check])) ≠ 0)) :
    s.bytesWritten (source :: code :: length :: (p ++ [check])) = discarded s := by
  by_cases long : 64 < length.toNat
  · have head : s.byteWritten source = kept s [address, source] := byteWritten_head receiving begun (by simp) source
    have next : (kept s [address, source]).byteWritten code = kept s [address, source, code] :=
      byteWritten_head (s := kept s [address, source]) receiving rfl (by simp) code
    have refused : (kept s [address, source, code]).byteWritten length = discarded s :=
      (byteWritten_length (s := kept s [address, source, code]) receiving rfl rfl length).trans (if_pos long)
    rw [bytesWritten_cons, bytesWritten_cons, bytesWritten_cons, head, next, refused, bytesWritten_discarded]
  · obtain ⟨full, sum⟩ := unsound.resolve_left long
    rw [requestWritten receiving begun source code length check (by omega) p full, if_neg sum]
    rfl

/-! ### Codes -/

theorem ofCode_eq_none {code : Byte} (h : code ∉ catalogueCodes) : Request.ofCode code = none := by
  refine List.find?_eq_none.mpr fun k _ same => h ?_
  rw [← beq_iff_eq.mp same]
  cases k <;> decide

/-! ### The lines -/

/-- The bytes received and the check byte spell a sound request. -/
def Taken (s : State) (b : Byte) : Prop :=
  ∃ a source code length p, s.zbi.request = some (a :: source :: code :: length :: p) ∧
    length.toNat ≤ 64 ∧ length.toNat ≤ p.length ∧ byteSum (a :: source :: code :: length :: (p ++ [b])) = 0

/-- A byte received enters EXECUTING exactly where it takes the request. -/
theorem receiveByte_executing {s : State} (receiving : s.zbi.transfer = .receiving) (b : Byte) :
    (s.receiveByte b).zbi.transfer = .executing ↔ Taken s b := by
  have stays {bytes : List Byte} : (s.keepByte bytes).zbi.transfer ≠ .executing := by simp [receiving]
  constructor
  · intro executing
    unfold receiveByte at executing
    simp only [receiving] at executing
    split at executing
    case h_2 => exact absurd executing stays
    case h_1 a source code length rest spelled =>
    split at executing
    · exact absurd executing (by simp [discardRequest])
    split at executing
    · exact absurd executing stays
    split at executing
    case isFalse => exact absurd executing (by simp [discardRequest])
    case isTrue short long sound =>
    obtain ⟨p, last, rfl⟩ := (List.eq_nil_or_concat rest).resolve_left (by rintro rfl; simp at long)
    have spelled' : s.zbi.request.getD [] ++ [b] = (a :: source :: code :: length :: p) ++ [last] := by simpa using spelled
    obtain ⟨before, lastByte⟩ := List.append_inj' spelled' rfl
    cases lastByte
    cases begun : s.zbi.request with
    | none => simp [begun] at before
    | some bytes =>
      rw [begun, Option.getD_some] at before
      subst before
      refine ⟨a, source, code, length, p, begun, Nat.le_of_not_lt short, ?_, by rw [spelled] at sound; simpa using sound⟩
      simp only [List.concat_eq_append, List.length_append, List.length_singleton] at long
      omega
  · rintro ⟨a, source, code, length, p, begun, fits, within, sound⟩
    unfold receiveByte
    simp only [receiving, begun, Option.getD_some, List.cons_append, Config.maxPayload]
    rw [if_neg (by omega), if_neg (by simp; omega), if_pos sound, takeCode_transfer]

/-- The part after a fall of ZCL at the end of a byte received, given what the whole byte does. -/
theorem exec_falls_received {s : State} (free : s.fsc.resetHeld = false) (hold : s.zbi.lines.hold = none) (high : s.zbi.lines.zcl = true)
    (receiving : s.zbi.transfer = .receiving) (data : s.zbi.lines.addressing = false) {b : Byte}
    (bits : s.zbi.lines.bits = (List.range 8).map fun i => b.getLsbD (7 - i)) (zda : Bool) :
    exec (.addressByte (.lines false zda)) s = .next (((fallen s zda).clocked.receiveByte b).setLines
      { s.zbi.lines with zcl := false, zda, low := some 0, pullsZda := ((fallen s zda).clocked.receiveByte b).zbi.acked }) := by
  have receives : (fallen s zda).sending = false := by simp [sending, fallen, receiving]
  have spelled : byteOfBits (fallen s zda).zbi.lines.bits = b := by
    rw [fallen, setLines_zbi, bits, byteOfBits_of_byte]
  have written : (fallen s zda).zbi.lines.addressing = false := data
  rw [exec_falls_eighth free hold high (by simp [bits]), byteEnds_of_received receives, spelled, written]
  rfl

/-- ZCL falls after the eighth bit of a byte received: the whole byte's effect, but a taken request stays in EXECUTING (R159, R163). -/
theorem received_bits {s : State} (free : s.fsc.resetHeld = false) (hold : s.zbi.lines.hold = none) (high : s.zbi.lines.zcl = true)
    (receiving : s.zbi.transfer = .receiving) (data : s.zbi.lines.addressing = false) {b : Byte}
    (bits : s.zbi.lines.bits = (List.range 8).map fun i => b.getLsbD (7 - i)) (zda : Bool) :
    let lines := { s.zbi.lines with zcl := false, zda, low := some 0 }
    let u := (fallen s zda).byteWritten b
    (Taken s b → exec (.addressByte (.lines false zda)) s = .next (u.setZbi { u.zbi with
      transfer := .executing, lines := { lines with pullsZda := u.zbi.acked } })) ∧
    (¬Taken s b → exec (.addressByte (.lines false zda)) s = .next (u.setZbi { u.zbi with
      lines := { lines with pullsZda := u.zbi.acked } })) := by
  intro lines u
  have whole : u = ((fallen s zda).clocked.receiveByte b).leaveExecuting :=
    byteWritten_eq (s := fallen s zda) (by simp [fallen, receiving]) (by simp [fallen, receiving]) b
  have executing : ((fallen s zda).clocked.receiveByte b).zbi.transfer = .executing ↔ Taken s b :=
    receiveByte_executing (s := (fallen s zda).clocked) receiving b
  rw [exec_falls_received free hold high receiving data bits]
  refine ⟨fun taken => ?_, fun untaken => ?_⟩
  · have acked : u.zbi.acked = ((fallen s zda).clocked.receiveByte b).zbi.acked := by
      rw [whole]
      simp only [leaveExecuting, executing.mpr taken]
      rfl
    rw [leaveExecuting_enter (executing.mpr taken), ← whole, ← acked]
  · rw [leaveExecuting_of_ne fun h => untaken (executing.mp h)] at whole
    rw [← whole]
    rfl

/-- ZCL falls at the end of a taken request's acknowledge bit: the part holds ZCL low (R163). -/
theorem exec_falls_taken {s : State} (free : s.fsc.resetHeld = false) (hold : s.zbi.lines.hold = none) (high : s.zbi.lines.zcl = true)
    (executing : s.zbi.transfer = .executing) (ninth : s.zbi.lines.bits.length = 9) (zda : Bool) :
    exec (.addressByte (.lines false zda)) s = .next (s.setZbi { s.zbi with lines :=
      { s.zbi.lines with zcl := false, zda, addressing := false, bits := [], pullsZda := false, hold := some 0, low := none } }) := by
  rw [exec_falls_ninth free hold high ninth, ackEnds, show (fallen s zda).zbi.transfer = .executing from executing]
  rfl

/-- The part releases ZCL and leaves EXECUTING; with others holding the line low, a stretch begins (R163, R166). -/
theorem exec_released {s : State} (free : s.fsc.resetHeld = false) {n : Nat} (hold : s.zbi.lines.hold = some n)
    (executing : s.zbi.transfer = .executing) (low : s.zbi.lines.zcl = false) :
    exec (.addressByte .released) s = .next (s.setZbi { s.zbi with
      transfer := if s.zbi.reply = none then .notAddressed else .replyReady,
      lines := { s.zbi.lines with hold := none, low := some 0 } }) := by
  have after : exec (.addressByte .released) s = .next s.releaseClock := by
    show Host.Outcome.next (if s.fsc.resetHeld = true then s else s.releaseClock) = _
    rw [if_neg (by simp [free])]
  rw [after]
  cases reply : s.zbi.reply <;>
    simp [releaseClock, hold, leaveExecuting, executing, followLines, BusLines.change, BusLines.clock, low, reply, setLines, State.setZbi]

/-- Settles O20. -/
theorem unsoundDiscardedUnknownRefused : Obligations.UnsoundDiscardedUnknownRefused := by
  refine ⟨fun s b bytes free receiving begun => ⟨fun few => ?head, fun three => ?length, fun a source code length p spelled fits => ?rest⟩,
    fun s source code length check p => ⟨?discardedRow, ?unknownRow, fun row k asked => ?row⟩,
    fun s source code length p check a free receiving addressed begun unsound => ?unsound,
    fun s code source p unnamed free receiving addressed begun notFloor fits => ?unknown,
    fun s zda free hold high => ⟨fun b receiving data bits => ?bits, fun executing ninth => exec_falls_taken free hold high executing ninth zda⟩,
    fun s n free hold executing low => exec_released free hold executing low⟩
  case head => rw [exec_byte free, byteWritten_head receiving begun few]; rfl
  case length =>
    rw [exec_byte free, byteWritten_length receiving begun three]
    rfl
  case rest =>
    subst spelled
    refine ⟨fun within => ?_, fun full unsound => ?_, fun full sound addressed => ?_⟩
    · rw [exec_byte free, byteWritten_payload receiving begun fits within]; rfl
    · rw [exec_byte free, byteWritten_unsound receiving begun fits full unsound]; rfl
    · have row := exec_sound receiving begun fits full free addressed sound
      exact ⟨fun c k asked code_eq => by rw [row, Checks.exec_of_asRequest asked, code_eq], row⟩
  case discardedRow => dsimp only; rw [foldl_happen_byte]; rfl
  case unknownRow => dsimp only; rw [foldl_happen_byte]; rfl
  case row => dsimp only; rw [foldl_happen_byte, Checks.exec_of_asRequest asked]; rfl
  case unsound =>
    refine (unlessHeld_free free fun s => s.bytesWritten (source :: code :: length :: (p ++ [check]))).trans ?_
    rw [bytesWritten_unsound receiving begun unsound]
    rfl
  case unknown =>
    have sender : (s.senderSlot source).isSome = true ↔
        ∃ n : Fin 8, (s.zbi.slots.get n).role ≠ .empty ∧ (s.zbi.slots.get n).address = source := by
      rw [Option.isSome_iff_ne_none, ne_eq, senderSlot_eq_none]
      push Not
      rfl
    refine (request_eq_of_unknown (code := code) (source := source) free receiving addressed begun notFloor fits (ofCode_eq_none unnamed)).trans ?_
    simp only [sender]
  case bits =>
    exact ⟨_, exec_byte (s := fallen s zda) free b, received_bits free hold high receiving data bits zda⟩

end Sys2Proof.Proofs.Receiving
end

section
/-! PROOF. The fade event: what moves and is posted (O45), the target's level (O46), and the limits (O47). -/

namespace Sys2Proof.Proofs.Fades

open Sys2Proof.Machine Sys2Proof.Machine.State Sys2Proof.Proofs.Idle

/-! ### The event -/

/-- The state after a fade event while the fade timer runs (R110). -/
def faded (s : State) : State := (s.fadeCells.postRows s.fadeCells.rowDiffers).prompt

theorem exec_fadeEvent {s : State} (free : s.fsc.resetHeld = false) (runs : s.fdu.timer.isSome = true) : exec .fadeEvent s = .next (faded s) := by
  obtain ⟨n, timer⟩ := Option.isSome_iff_exists.mp runs
  refine (unlessHeld_free free State.fade).trans ?_
  rw [fade, timer]
  rfl

theorem faded_lau (s : State) : (faded s).lau = s.fadeCells.lau := (prompt_lau _).trans (postRows_lau _ _)

theorem faded_fdu (s : State) : (faded s).fdu = s.fadeCells.fdu := (prompt_fdu _).trans (postRows_fdu _ _)

/-- A present cell's record after the event (R88). -/
theorem faded_record {s : State} {c : Fin 256} (present : s.ct.present c = true) : (faded s).lau.cells.get c = s.lauComputed c := by
  rw [faded_lau, fadeCells_lau, if_pos present]

theorem faded_level {s : State} {c : Fin 256} (present : s.ct.present c = true) : (faded s).fdu.levels.get c = some (s.fadedLevel c) := by
  rw [faded_fdu, fadeCells_levels, if_pos present]

theorem keepsBut_faded (s : State) : s.keepsBut [.lau, .fdu, .llc] (faded s) :=
  keepsBut_of (ct := fun _ => by simp [faded]) (slu := fun _ => by simp [faded]) (dle := fun _ => by simp [faded])
    (rlu := fun _ => by simp [faded]) (fsc := fun _ => by simp [faded]) (sst := fun _ => by simp [faded])
    (zbi := fun _ => by simp [faded]) (queue := fun _ => by simp [faded])

/-! ### What moves -/

theorem lastGoal_computed (s : State) (c : Fin 256) : (s.lauComputed c).lastGoal = some (s.goalOf c) := rfl

/-- A fade level moves toward the goal by a step and never past it (R112). -/
theorem moveLevel_spelled (p : Profile) (v goal : Nat) :
    (v < goal → moveLevel p v goal = min goal (v + p.up)) ∧ (goal < v → moveLevel p v goal = max goal (v - p.down)) ∧
      (goal = v → moveLevel p v goal = v) := by
  refine ⟨fun up => if_pos up, fun down => (if_neg (by omega)).trans (if_pos down), fun same => ?_⟩
  rw [moveLevel, if_neg (by omega), if_neg (by omega)]

/-! ### What is posted -/

/-- Some present cell of the row differs. -/
theorem rowDiffers_iff (s : State) (r : Fin 8) : s.rowDiffers r = true ↔
    ∃ b : Fin 32, s.ct.present (cellAt r b) = true ∧
      (s.llc.taken.get (cellAt r b) = none ∨ s.fdu.levels.get (cellAt r b) ≠ s.llc.taken.get (cellAt r b)) := by
  simp [rowDiffers, cellDiffers, allBays]

theorem configured_of_rowDiffers {s : State} {r : Fin 8} (h : s.rowDiffers r = true) : s.ct.configured r = true := by
  obtain ⟨b, present, -⟩ := (rowDiffers_iff s r).mp h
  exact (CellTable.configured_iff _ _).mpr ⟨b, present⟩

/-- A queued row is in hand after a selection: still queued, or in flight (R131, R133). -/
theorem select_rowInHand {s : State} {r : Fin 8} (queued : r ∈ s.llc.queue) : s.select.rowInHand r := by
  have burst (q : Fin 8) : (s.unshed.startBurst q).rowInHand r := by
    by_cases own : r = q
    · subst own
      exact .inr ⟨_, rfl, rfl, rfl⟩
    · exact .inl (List.mem_filter.mpr ⟨queued, by simpa using own⟩)
  rw [select_eq]
  split_ifs
  case neg =>
    split
    · split_ifs
      · exact burst _
      · exact .inl queued
    · split
      · exact burst _
      · exact .inl queued
  all_goals exact .inl queued

theorem prompt_rowInHand {s : State} {r : Fin 8} (queued : r ∈ s.llc.queue) : s.prompt.rowInHand r := by
  unfold prompt
  split
  · exact select_rowInHand queued
  · exact .inl queued

theorem mem_postRows {s : State} {p : Fin 8 → Bool} {r : Fin 8} (configured : s.ct.configured r = true) (picked : p r = true) :
    r ∈ (s.postRows p).llc.queue := by
  rw [postRows_llc]
  by_cases queued : r ∈ s.llc.queue
  · exact List.mem_append_left _ queued
  · refine List.mem_append_right _ (List.mem_filter.mpr ⟨List.mem_filter.mpr ⟨List.mem_finRange r, ?_⟩, ?_⟩)
    · simp [configured, picked]
    · simpa using queued

/-- The rows that differ, posted in ascending order. -/
theorem postRows_differing (s : State) : (s.postRows s.rowDiffers).llc = { s.llc with
    queue := s.llc.queue ++ (List.finRange 8).filter fun r => s.rowDiffers r && !s.llc.queue.contains r } := by
  have rows : ((allRows.filter fun r => s.ct.configured r && s.rowDiffers r).filter fun r => !s.llc.queue.contains r) =
      (List.finRange 8).filter fun r => s.rowDiffers r && !s.llc.queue.contains r := by
    rw [List.filter_filter]
    refine List.filter_congr fun r _ => ?_
    cases differs : s.rowDiffers r with
    | true => simp [configured_of_rowDiffers differs]
    | false => simp
  rw [postRows_llc, rows]

theorem faded_link (s : State) : (faded s).llc.taken = s.llc.taken ∧ (faded s).llc.ages = s.llc.ages ∧
    (faded s).llc.state = s.llc.state ∧ (faded s).llc.interval = s.llc.interval := by
  simp [faded, postRows_llc]

/-- Settles O45. -/
theorem fadeEventMovesAndPosts : Obligations.FadeEventMovesAndPosts := by
  intro s free runs
  have differs (r : Fin 8) : s.fadeCells.rowDiffers r = true ↔ ∃ b : Fin 32, s.ct.present (cellAt r b) = true ∧
      (s.llc.taken.get (cellAt r b) = none ∨ (faded s).fdu.levels.get (cellAt r b) ≠ s.llc.taken.get (cellAt r b)) := by
    rw [faded_fdu]
    exact rowDiffers_iff s.fadeCells r
  obtain ⟨taken, ages, state, interval⟩ := faded_link s
  refine ⟨faded s, exec_fadeEvent free runs, keepsBut_faded s, by rw [faded_lau]; rfl, by rw [faded_fdu]; rfl, by rw [faded_fdu]; rfl,
    taken, ages, state, interval, fun c absent => ?absent, fun c present => ?present, fun r h => ?inHand,
    fun busy => ?posted⟩
  case absent =>
    have gone : ¬s.ct.present c = true := by simp [absent]
    exact ⟨by rw [faded_fdu, fadeCells_levels, if_neg gone], by rw [faded_lau, fadeCells_lau, if_neg gone]⟩
  case present =>
    rw [faded_record present, faded_level present, fadedLevel]
    refine ⟨s.goalOf c, lastGoal_computed s c, fun none => by rw [none], fun v level => ?_⟩
    rw [level]
    obtain ⟨up, down, same⟩ := moveLevel_spelled (s.fdu.profiles.get (s.ct.cells.get c).profile) v (s.goalOf c)
    exact ⟨fun h => congrArg some (up h), fun h => congrArg some (down h), fun h => congrArg some (same h)⟩
  case inHand =>
    have differing := (differs r).mpr h
    exact prompt_rowInHand (mem_postRows (configured_of_rowDiffers differing) differing)
  case posted =>
    have rows : (fun r => s.fadeCells.rowDiffers r && !s.llc.queue.contains r) = fun r => decide (∃ b : Fin 32,
        s.ct.present (cellAt r b) = true ∧ (s.llc.taken.get (cellAt r b) = none ∨
          (faded s).fdu.levels.get (cellAt r b) ≠ s.llc.taken.get (cellAt r b))) && !s.llc.queue.contains r :=
      funext fun r => congrArg (· && _) (Bool.eq_iff_iff.mpr ((differs r).trans decide_eq_true_iff.symm))
    have posts := postRows_differing s.fadeCells
    rw [fadeCells_llc, rows] at posts
    rw [← posts]
    exact congrArg State.llc (prompt_of_flight (s := s.fadeCells.postRows s.fadeCells.rowDiffers) (by rw [posts]; exact busy))

/-! ### The target's level -/

theorem daylightAt_eq (s : State) (c : Fin 256) :
    daylightAt (s.lauInput c).feff (s.lauInput c).daylightFactor (s.lauInput c).attenuation =
      min ((s.effective (s.ct.cells.get c).facade).1 * (s.ct.rows.get (rowOf c)).daylightFactor *
        s.dle.attenuation.get (match (s.dle.sections.get (s.ct.cells.get c).facade).step with
          | some step => step
          | none => s.dle.fallback) / 2560000) 65535 := by
  rw [daylightAt]
  show min (_ * _ * s.dle.attenuation.get _ / _) _ = _
  congr 5
  rw [Section.effectiveStep]
  cases (s.dle.sections.get (s.ct.cells.get c).facade).step <;> rfl

/-- What forms the base level of a LIVE row's cell with a TARGET or BASE winner (R89). -/
theorem formBase_target {i : LauInput} (old : LauCell) {target : Nat} (live : i.frozen = false)
    (h : (∃ n g, i.winner = .target n g target) ∨ (i.winner = .base ∧ i.baseTarget = target)) :
    i.formBase old = i.baseFromTarget old (daylightAt i.feff i.daylightFactor i.attenuation) target := by
  rw [LauInput.formBase, if_neg (by simp [live])]
  rcases h with ⟨n, g, winner⟩ | ⟨winner, rfl⟩ <;> simp only [winner]

/-- Stages 3 and 4, case by case, with L16 the level in sixteenths (R92 to R94). -/
theorem levelOf_enough (mode : QuantMode) (residue : Nat) {target d : Nat} (efficacy : Nat) (h : target ≤ d) :
    levelOf mode residue ((target : Int) - d) efficacy = (0, 0, false) := if_pos (by omega)

theorem levelOf_saturated (mode : QuantMode) (residue : Nat) {target d efficacy : Nat} (some : 1 ≤ efficacy) (h : d + efficacy ≤ target) :
    levelOf mode residue ((target : Int) - d) efficacy = (1000, 0, true) := (if_neg (by omega)).trans (if_pos (by omega))

theorem levelOf_between (mode : QuantMode) (residue : Nat) {target d efficacy : Nat} (low : d < target) (high : target < d + efficacy) :
    levelOf mode residue ((target : Int) - d) efficacy =
      ((quantise mode residue ((target - d) * 16000 / efficacy)).1, (quantise mode residue ((target - d) * 16000 / efficacy)).2, false) := by
  rw [levelOf, if_neg (by omega), if_neg (by omega), show ((target : Int) - d).toNat = target - d by omega]

theorem quantise_chop (residue l16 : Nat) : quantise .chop residue l16 = (l16 / 16, residue) := rfl

theorem quantise_round (residue l16 : Nat) : quantise .round residue l16 = ((l16 + 8) / 16, residue) := by
  simp only [quantise, Prod.mk.injEq, and_true]
  split <;> omega

theorem quantise_dither {residue : Nat} (l16 : Nat) (h : residue ≤ 15) :
    quantise .dither residue l16 = ((l16 + residue) / 16, (l16 + residue) % 16) := by
  simp only [quantise]
  split <;> exact Prod.ext (by dsimp only; omega) (by dsimp only; omega)

/-- Settles O46. -/
theorem fadeEventFormsTargetLevel : Obligations.FadeEventFormsTargetLevel := by
  intro s c target free runs present live some winner
  refine ⟨faded s, exec_fadeEvent free runs, ?_⟩
  intro k old new blind product D L16
  have formed : new = (s.lauInput c).applyLimits ((s.lauInput c).baseFromTarget old D target) := by
    rw [show D = _ from (daylightAt_eq s c).symm, ← formBase_target (i := s.lauInput c) old live winner]
    exact faded_record present
  have fields : new.lastDaylight = Option.some D ∧ new.residue = (levelOf s.lau.mode old.residue ((target : Int) - D) k.efficacy).2.1 ∧
      new.saturated = (levelOf s.lau.mode old.residue ((target : Int) - D) k.efficacy).2.2 ∧
      new.shortfall = (old.shortfall || (levelOf s.lau.mode old.residue ((target : Int) - D) k.efficacy).2.2) ∧
      new.lastBase = Option.some (max (levelOf s.lau.mode old.residue ((target : Int) - D) k.efficacy).1 k.floor) ∧
      new.floored = decide ((levelOf s.lau.mode old.residue ((target : Int) - D) k.efficacy).1 < k.floor) := by
    rw [formed]
    exact ⟨rfl, rfl, rfl, rfl, rfl, rfl⟩
  obtain ⟨daylight, residue, saturated, shortfall, base, floored⟩ := fields
  rw [residue, saturated, shortfall, base, floored]
  refine ⟨daylight, fun enough => ?_, fun short => ?_, fun low high => ?_⟩
  · rw [levelOf_enough _ _ _ enough]
    simp
  · rw [levelOf_saturated _ _ some short]
    simp
  · rw [levelOf_between _ _ low high]
    refine ⟨rfl, Bool.or_false _, _, rfl, rfl, fun chop => ?_, fun round => ?_, fun dither within => ?_⟩
    · rw [chop, quantise_chop]; exact ⟨rfl, rfl⟩
    · rw [round, quantise_round]; exact ⟨rfl, rfl⟩
    · rw [dither, quantise_dither _ within]; exact ⟨rfl, rfl⟩

/-! ### The limits -/

theorem formBase_fixed {i : LauInput} (old : LauCell) (live : i.frozen = false) {n : Fin 8} {g : Fin 16} {level : Nat}
    (winner : i.winner = .fixed n g level) :
    i.formBase old = { old with
      lastDaylight := some (daylightAt i.feff i.daylightFactor i.attenuation), saturated := false, floored := false, lastBase := some level } := by
  rw [LauInput.formBase, if_neg (by simp [live]), winner]

theorem formBase_frozen {i : LauInput} (old : LauCell) (frozen : i.frozen = true) :
    i.formBase old = { old with lastBase := some (i.held.getD i.floor) } := if_pos frozen

/-- Every computation forms a base level. -/
theorem formBase_base (i : LauInput) (old : LauCell) : ∃ base, (i.formBase old).lastBase = some base := by
  unfold LauInput.formBase
  split
  · exact ⟨_, rfl⟩
  · dsimp only
    split <;> exact ⟨_, rfl⟩

/-- The cap, then the shed level while the latch is set, then 0 in STANDBY (R100 to R103). -/
theorem applyLimits_spelled (i : LauInput) (r : LauCell) {base : Nat} (formed : r.lastBase = some base) :
    let capped := match i.cap with
      | none => base
      | some v => min base v
    ((i.applyLimits r).capped = true ↔ ∃ v, i.cap = some v ∧ v < base) ∧
    ((i.applyLimits r).shedLimited = true ↔ i.latch = true ∧ i.shedLevel < capped) ∧
    (i.applyLimits r).lastGoal = some (if i.standby = true then 0 else if i.latch = true then min capped i.shedLevel else capped) := by
  cases cap : i.cap <;> simp [LauInput.applyLimits, LauInput.limited, cappedFlag, shedLimitedFlag, formed, cap]

/-- Settles O47. -/
theorem fadeEventAppliesLimits : Obligations.FadeEventAppliesLimits := by
  intro s c free runs present
  refine ⟨faded s, exec_fadeEvent free runs, ?_⟩
  intro old new z shed
  have computed : new = (s.lauInput c).applyLimits ((s.lauInput c).formBase old) := faded_record present
  refine ⟨fun live n g level winner => ?fixed, fun frozen held hold => ?frozen, ?limits⟩
  case fixed =>
    rw [computed, formBase_fixed (i := s.lauInput c) old live winner]
    exact ⟨rfl, rfl, rfl, rfl, rfl, rfl⟩
  case frozen =>
    rw [computed, formBase_frozen (i := s.lauInput c) old frozen, show (s.lauInput c).held = some held from hold]
    exact ⟨rfl, rfl, rfl, rfl, rfl, rfl⟩
  case limits =>
    obtain ⟨base, formed⟩ := formBase_base (s.lauInput c) old
    obtain ⟨capped, shedLimited, goal⟩ := applyLimits_spelled (s.lauInput c) _ formed
    rw [computed]
    exact ⟨base, formed, capped, shedLimited, goal.trans (congrArg some (if_congr decide_eq_true_iff rfl rfl))⟩

end Sys2Proof.Proofs.Fades
end

section
/-! PROOF. What a burst stages (O48), the next frame by the order of its table (O49), and the completions of frames (O50). -/

namespace Sys2Proof.Proofs.LinkFrames

open Sys2Proof.Machine Sys2Proof.Machine.State Sys2Proof.Proofs.Idle Sys2Proof.Proofs.Rested Sys2Proof.Proofs.Fades

/-! ### What a burst stages -/

/-- The bays from `lo` to `hi`. -/
def baysBetween (lo hi : Fin 32) : List (Fin 32) := ((List.finRange 32).drop lo.val).take (hi.val + 1 - lo.val)

theorem length_baysBetween {lo hi : Fin 32} (h : lo ≤ hi) : (baysBetween lo hi).length = hi.val + 1 - lo.val := by
  simp only [baysBetween, List.length_take, List.length_drop, List.length_finRange]
  omega

theorem getElem?_baysBetween {lo hi b : Fin 32} (low : lo ≤ b) (high : b ≤ hi) : (baysBetween lo hi)[b.val - lo.val]? = some b := by
  rw [baysBetween, List.getElem?_take_of_lt (by omega), List.getElem?_drop, Nat.add_sub_cancel' (Fin.le_def.mp low)]
  simp

/-- A list without its leading and its trailing elements that `p` picks. -/
theorem trim_append {α : Type} {p : α → Bool} {before kept after : List α} (leading : ∀ x ∈ before, p x = true) (trailing : ∀ x ∈ after, p x = true)
    (first : ∀ x, kept.head? = some x → p x = false) (last : ∀ x, kept.getLast? = some x → p x = false) (some : kept ≠ []) :
    (((before ++ (kept ++ after)).dropWhile p).reverse.dropWhile p).reverse = kept := by
  have front : (kept ++ after).dropWhile p = kept ++ after := by
    obtain ⟨x, rest, rfl⟩ := List.exists_cons_of_ne_nil some
    rw [List.cons_append, List.dropWhile_cons_of_neg (by simp [first x rfl])]
  have back : kept.reverse.dropWhile p = kept.reverse := by
    obtain ⟨rest, x, rfl⟩ := (List.eq_nil_or_concat kept).resolve_left some
    rw [List.concat_eq_append, List.reverse_append, List.reverse_singleton, List.singleton_append,
      List.dropWhile_cons_of_neg (by simp [last x (by simp)])]
  rw [List.dropWhile_append_of_pos leading, front, List.reverse_append, List.dropWhile_append_of_pos (by simpa using trailing), back,
    List.reverse_reverse]

/-- A configured row's burst spans its lowest present bay to its highest (R126). -/
theorem burstRange_eq {s : State} {r : Fin 8} {lo hi : Fin 32} (low : s.ct.present (cellAt r lo) = true)
    (high : s.ct.present (cellAt r hi) = true) (between : ∀ b : Fin 32, s.ct.present (cellAt r b) = true → lo ≤ b ∧ b ≤ hi) :
    s.burstRange r = baysBetween lo hi := by
  have le : lo ≤ hi := (between hi high).1
  have split : allBays = (List.finRange 32).take lo.val ++ (baysBetween lo hi ++ (List.finRange 32).drop (hi.val + 1)) := by
    have rest : baysBetween lo hi ++ (List.finRange 32).drop (hi.val + 1) = (List.finRange 32).drop lo.val := by
      rw [baysBetween, show hi.val + 1 = lo.val + (hi.val + 1 - lo.val) by omega, ← List.drop_drop, Nat.add_sub_cancel_left,
        List.take_append_drop]
    rw [rest, List.take_append_drop]
    rfl
  have absent {b : Fin 32} (out : ¬(lo ≤ b ∧ b ≤ hi)) : (!s.ct.present (cellAt r b)) = true := by
    simpa using mt (between b) out
  rw [burstRange, split]
  refine trim_append (fun b before => absent ?_) (fun b after => absent ?_) (fun b first => ?_) (fun b last => ?_) ?_
  · obtain ⟨i, inside, rfl⟩ := List.mem_take_iff_getElem.mp before
    simp only [List.getElem_finRange, Fin.le_def, Fin.val_cast]
    omega
  · obtain ⟨i, inside, rfl⟩ := List.mem_drop_iff_getElem.mp after
    simp only [List.getElem_finRange, Fin.le_def, Fin.val_cast]
    omega
  · have start := getElem?_baysBetween (le_refl lo) le
    rw [Nat.sub_self, ← List.head?_eq_getElem?, first] at start
    simpa [Option.some.inj start] using low
  · have stop := getElem?_baysBetween le (le_refl hi)
    rw [List.getLast?_eq_getElem?, length_baysBetween le, show hi.val + 1 - lo.val - 1 = hi.val - lo.val by omega, stop] at last
    simpa [← Option.some.inj last] using high
  · exact List.ne_nil_of_length_pos (by rw [length_baysBetween le]; omega)

/-- Settles O48. -/
theorem burstStagesPresentBays : Obligations.BurstStagesPresentBays := by
  intro s r lo hi low high between
  have range := burstRange_eq low high between
  have le : lo ≤ hi := (between hi high).1
  refine ⟨(s.burstRange r).map (s.stagedBay r), ?_, ?_, ?_, fun b inLow inHigh => ?_⟩
  · have start : (s.burstRange r).head? = some lo := by
      rw [range, List.head?_eq_getElem?, ← Nat.sub_self lo.val, getElem?_baysBetween (le_refl lo) le]
    rw [stageBurst, start]
    rfl
  · rw [List.length_map, range, length_baysBetween le]
  · rfl
  · rw [range, List.getElem?_map, getElem?_baysBetween inLow inHigh]
    exact ⟨fun present => congrArg some (if_pos present), fun absent => congrArg some (if_neg (by simp [absent]))⟩

/-! ### The next frame -/

/-- The link sending frame `f` from now, for `ticks`. -/
def flying (l : LuminaireLink) (f : Frame) (ticks : Nat) : LuminaireLink := { l with flight := some ⟨f, 0, ticks, false⟩ }

section
variable {s : State}

/-- Line 1 of the table: a SHED (R133). -/
theorem select_shed (pending : s.llc.pendingShed = true) (latch : s.fsc.latch = true) :
    s.select.llc = flying s.unshed.llc (.shed (s.ct.rows.map RowRecord.shedLevel)) 231 := by
  rw [select_eq, if_pos (by simp [pending, latch])]
  rfl

theorem noShed (quiet : s.llc.pendingShed = false ∨ s.fsc.latch = false) : ¬(s.llc.pendingShed && s.fsc.latch) = true := by
  rcases quiet with none | clear <;> simp [*]

variable (quiet : s.llc.pendingShed = false ∨ s.fsc.latch = false)
include quiet

/-- Line 2: an INIT group. -/
theorem select_init (pending : s.llc.pendingInit = true) :
    s.select.llc = flying { s.unshed.llc with pendingInit := false } .initGroup 264 := by
  rw [select_eq, if_neg (noShed quiet), if_pos pending]
  rfl

variable (noInit : s.llc.pendingInit = false)
include noInit

/-- Line 3: an ALL-TOUCH for a pending interval. -/
theorem select_interval (pending : s.llc.pendingInterval.isSome = true) : s.select.llc = flying s.unshed.llc .allTouch 33 := by
  rw [select_eq, if_neg (noShed quiet), if_neg (by simp [noInit]), if_pos pending]
  rfl

variable (noInterval : s.llc.pendingInterval = none)
include noInterval

/-- Past line 3 the due row of greatest age is looked for, and then the urgent row queue. -/
theorem select_rows : s.select =
    match s.dueRow with
    | some r => if (s.rowDiffers r && s.rowReady r) = true then s.unshed.startBurst r else s.unshed.setLlc (s.unshed.llc.start .allTouch)
    | none =>
      match s.llc.queue.find? s.rowReady with
      | some r => s.unshed.startBurst r
      | none => s.unshed := by
  rw [select_eq, if_neg (noShed quiet), if_neg (by simp [noInit]), if_neg (by simp [noInterval])]
  rfl

/-- Line 4: the due row's BURST where it differs and is ready, else an ALL-TOUCH. -/
theorem select_due {r : Fin 8} (due : s.dueRow = some r) : s.select.llc =
    if s.rowDiffers r = true ∧ s.rowReady r = true then
      flying { s.unshed.llc with queue := s.llc.queue.filter (· ≠ r) } (s.stageBurst r) (Timing.frame (s.stageBurst r))
    else flying s.unshed.llc .allTouch 33 := by
  simp only [select_rows quiet noInit noInterval, due, Bool.and_eq_true]
  split <;> rfl

/-- Line 5: the first ready row of the queue. -/
theorem select_queued (notDue : s.dueRow = none) {passed rest : List (Fin 8)} {r : Fin 8} (queue : s.llc.queue = passed ++ r :: rest)
    (unready : ∀ x ∈ passed, s.rowReady x = false) (ready : s.rowReady r = true) : s.select.llc =
      flying { s.unshed.llc with queue := s.llc.queue.filter (· ≠ r) } (s.stageBurst r) (Timing.frame (s.stageBurst r)) := by
  have found : s.llc.queue.find? s.rowReady = some r := by
    rw [List.find?_eq_some_iff_append]
    exact ⟨ready, passed, rest, queue, fun x before => by simp [unready x before]⟩
  simp only [select_rows quiet noInit noInterval, notDue, found]
  rfl

/-- Line 6: nothing to send. -/
theorem select_nothing (notDue : s.dueRow = none) (unready : ∀ x ∈ s.llc.queue, s.rowReady x = false) : s.select.llc = s.unshed.llc := by
  have found : s.llc.queue.find? s.rowReady = none := List.find?_eq_none.mpr fun x queued => by simp [unready x queued]
  simp only [select_rows quiet noInit noInterval, notDue, found]

end

theorem keepsBut_prompt (s : State) : s.keepsBut [.llc] s.prompt :=
  keepsBut_of (ct := fun _ => prompt_ct s) (slu := fun _ => prompt_slu s) (dle := fun _ => prompt_dle s) (rlu := fun _ => prompt_rlu s)
    (lau := fun _ => prompt_lau s) (fdu := fun _ => prompt_fdu s) (fsc := fun _ => prompt_fsc s) (sst := fun _ => prompt_sst s)
    (zbi := fun _ => prompt_zbi s) (queue := fun _ => prompt_pending s)

/-! ### The due row -/

/-- The best due row among those looked at: of greatest age, the lower number among equals (R133, line 4). -/
def BestOf (s : State) (seen : List (Fin 8)) (best : Option (Fin 8 × Nat)) : Prop :=
  (∀ q b, best = some (q, b) → q ∈ seen ∧ s.dueAge q = some b) ∧
  ∀ r ∈ seen, ∀ a, s.dueAge r = some a → ∃ q b, best = some (q, b) ∧ (a < b ∨ (a = b ∧ q ≤ r))

section
variable {s : State} {seen : List (Fin 8)} {best : Option (Fin 8 × Nat)} {r : Fin 8}

/-- The next row becomes the best one. -/
theorem bestOf_taken {a : Nat} (due : s.dueAge r = some a)
    (beaten : ∀ x ∈ seen, ∀ b, s.dueAge x = some b → b < a ∨ (b = a ∧ r ≤ x)) : BestOf s (seen ++ [r]) (some (r, a)) := by
  refine ⟨fun q b found => by cases found; exact ⟨by simp, due⟩, List.forall_mem_append.mpr ⟨fun x old b age => ⟨r, a, rfl, beaten x old b age⟩, ?_⟩⟩
  intro x new b age
  rw [List.mem_singleton.mp new, due] at age
  exact ⟨r, a, rfl, .inr ⟨(Option.some.inj age).symm, (List.mem_singleton.mp new).ge⟩⟩

/-- The best row of those before stays the best one. -/
theorem bestOf_passed (h : BestOf s seen best) (beaten : ∀ a, s.dueAge r = some a → ∃ q b, best = some (q, b) ∧ (a < b ∨ (a = b ∧ q ≤ r))) :
    BestOf s (seen ++ [r]) best := by
  refine ⟨fun q b found => ⟨List.mem_append_left _ (h.1 q b found).1, (h.1 q b found).2⟩, List.forall_mem_append.mpr ⟨h.2, ?_⟩⟩
  intro x new
  rw [List.mem_singleton.mp new]
  exact beaten

theorem bestOf_pickDue (h : BestOf s seen best) (later : ∀ x ∈ seen, x < r) : BestOf s (seen ++ [r]) (pickDue s best r) := by
  unfold pickDue
  cases due : s.dueAge r with
  | none => exact bestOf_passed h fun a age => by rw [due] at age; cases age
  | some a =>
    match best with
    | none =>
      refine bestOf_taken due fun x old b age => ?_
      obtain ⟨q, c, found, -⟩ := h.2 x old b age
      cases found
    | some (q, c) =>
      dsimp only
      split
      case isTrue older =>
        refine bestOf_taken due fun x old b age => ?_
        obtain ⟨q', c', found, order⟩ := h.2 x old b age
        cases found
        exact .inl (by omega)
      case isFalse younger =>
        refine bestOf_passed h fun b age => ⟨q, c, rfl, ?_⟩
        have before : q < r := later q (h.1 q c rfl).1
        have same : a = b := Option.some.inj (due.symm.trans age)
        by_cases less : b < c
        · exact .inl less
        · exact .inr ⟨by omega, before.le⟩

end

theorem bestOf_foldl {s : State} (l : List (Fin 8)) {seen : List (Fin 8)} {best : Option (Fin 8 × Nat)} (h : BestOf s seen best)
    (sorted : (seen ++ l).Pairwise (· < ·)) : BestOf s (seen ++ l) (l.foldl (pickDue s) best) := by
  induction l generalizing seen best with
  | nil => simpa using h
  | cons r l ih =>
    have later (x : Fin 8) (old : x ∈ seen) : x < r := (List.pairwise_append.mp sorted).2.2 x old r (List.mem_cons_self ..)
    have next : seen ++ r :: l = (seen ++ [r]) ++ l := by simp
    rw [List.foldl_cons, next]
    exact ih (bestOf_pickDue h later) (next ▸ sorted)

/-- The due row is the one of greatest age, the lower number among equals. -/
theorem dueRow_best {s : State} {r : Fin 8} (h : s.dueRow = some r) :
    ∃ a, s.dueAge r = some a ∧ ∀ x b, s.dueAge x = some b → b < a ∨ (b = a ∧ r ≤ x) := by
  obtain ⟨due, greatest⟩ := bestOf_foldl (s := s) allRows (seen := []) (best := none) ⟨nofun, nofun⟩ (List.pairwise_lt_finRange 8)
  rw [dueRow_eq, Option.map_eq_some_iff] at h
  obtain ⟨⟨q, a⟩, found, rfl⟩ := h
  refine ⟨a, (due q a found).2, fun x b age => ?_⟩
  obtain ⟨q', a', found', order⟩ := greatest x (List.mem_finRange x) b age
  cases found.symm.trans found'
  exact order

/-! ### Prompts -/

theorem rowBecomesDue_eq {s : State} {r : Fin 8} {a : Nat} (run : s.llc.state = .run) (age : s.llc.ages.get r = some a) :
    s.rowBecomesDue r = (s.setLlc { s.llc with ages := s.llc.ages.set r (some (max a ((s.llc.interval * 125 + 1) / 2))) }).prompt := by
  rw [rowBecomesDue, run, age]
  rfl

theorem reInitExpiry_eq {s : State} (runs : s.llc.reInit.isSome = true) :
    s.reInitExpiry = (s.setLlc { s.llc with reInit := some 0, pendingInit := true }).prompt := by
  obtain ⟨n, timer⟩ := Option.isSome_iff_exists.mp runs
  rw [reInitExpiry, timer]

/-- Settles O49. -/
theorem nextFrameByOrder : Obligations.NextFrameByOrder := by
  refine ⟨fun s run idle => ⟨keepsBut_prompt s, ?_⟩, fun s => ⟨?none, fun r h => ?best⟩, fun s r a free run age => ?rowDue, fun s free runs => ?reInit⟩
  · rw [prompt_idle run idle]
    exact ⟨select_shed, fun quiet => ⟨select_init quiet, fun noInit => ⟨select_interval quiet noInit, fun noInterval =>
      ⟨fun r due => select_due quiet noInit noInterval due, fun notDue =>
        ⟨fun passed r rest queue unready ready => select_queued quiet noInit noInterval notDue queue unready ready,
          select_nothing quiet noInit noInterval notDue⟩⟩⟩⟩⟩
  case none =>
    rw [dueRow_eq_none]
    refine forall_congr' fun r => Option.eq_none_iff_forall_ne_some.trans (forall_congr' fun a => ?_)
    exact not_congr dueAge_eq_some
  case best =>
    obtain ⟨a, due, greatest⟩ := dueRow_best h
    exact ⟨a, dueAge_eq_some.mp due, fun x b dueToo => greatest x b (dueAge_eq_some.mpr dueToo)⟩
  case rowDue =>
    have prompted := (unlessHeld_free free fun s => s.rowBecomesDue r).trans (congrArg _ (rowBecomesDue_eq run age))
    exact ⟨prompted, fun busy => prompted.trans (congrArg _ (prompt_of_flight busy))⟩
  case reInit =>
    have prompted := (unlessHeld_free free State.reInitExpiry).trans (congrArg _ (reInitExpiry_eq runs))
    exact ⟨prompted, fun busy => prompted.trans (congrArg _ (prompt_of_flight busy))⟩

/-! ### Completions -/

/-- The effects of a frame's completion, with the link free. -/
def ended (s : State) (f : Flight) : State :=
  let done := if f.cut = true then s.cutDone f.frame else s.frameDone f.frame
  done.setLlc { done.llc with flight := none }

/-- The row posted, unless it is queued already. -/
def posted (l : LuminaireLink) (r : Fin 8) : List (Fin 8) := if r ∈ l.queue then l.queue else l.queue ++ [r]

theorem post_posted (l : LuminaireLink) (r : Fin 8) : l.post r = { l with queue := posted l r } := by
  unfold LuminaireLink.post posted
  by_cases queued : r ∈ l.queue <;> simp [queued]

theorem mem_posted (l : LuminaireLink) (r : Fin 8) : r ∈ posted l r := by
  unfold posted
  split
  · assumption
  · simp

/-- A completion of the kind of the frame in flight is its effects, the link free, and a selection (R122). -/
theorem completeIf_ended {s : State} {f : Flight} (flight : s.llc.flight = some f) {kind : Flight → Bool} (is : kind f = true) :
    s.completeIf kind = (ended s f).prompt := by
  rw [completeIf_eq flight, if_pos is]
  rfl

theorem exec_completes {s : State} {f : Flight} (free : s.fsc.resetHeld = false) (flight : s.llc.flight = some f) {kind : Flight → Bool}
    (is : kind f = true) : unlessHeld (fun s => s.completeIf kind) s = .next (ended s f).prompt :=
  (unlessHeld_free free _).trans (congrArg _ (completeIf_ended flight is))

/-- With a SHED pending and the latch set, the selection after a completion in RUN starts the SHED (R133, R134). -/
theorem shed_next {s e : State} (run : e.llc.state = .run) (free : e.llc.flight = none) (pending : s.llc.pendingShed = true)
    (latch : s.fsc.latch = true) (keptPending : e.llc.pendingShed = s.llc.pendingShed) (keptLatch : e.fsc.latch = s.fsc.latch)
    (rows : e.ct = s.ct) : e.prompt.llc.pendingShed = false ∧
      e.prompt.llc.flight = some ⟨.shed (s.ct.rows.map RowRecord.shedLevel), 0, 231, false⟩ := by
  rw [prompt_idle run free, select_shed (keptPending.trans pending) (keptLatch.trans latch), rows]
  exact ⟨rfl, rfl⟩

/-- With an INIT group pending in RUN the next frame is a SHED or the INIT group. -/
theorem prompt_pendingInit {e : State} (pending : e.llc.pendingInit = true) :
    e.prompt.llc.pendingInit = true ∨ ∃ g, e.prompt.llc.flight = some g ∧ g.frame = .initGroup ∧ g.cut = false := by
  by_cases idle : e.llc.state = .run ∧ e.llc.flight = none
  · rw [prompt_idle idle.1 idle.2]
    by_cases shed : e.llc.pendingShed = true ∧ e.fsc.latch = true
    · rw [select_shed shed.1 shed.2]
      exact .inl pending
    · rw [select_init (by simpa [imp_iff_not_or] using shed) pending]
      exact .inr ⟨_, rfl, rfl, rfl⟩
  · rw [prompt_busy idle]
    exact .inl pending

/-! ### Whole frames -/

theorem initDone_llc (s : State) : s.initDone.llc = { s.llc with
    taken := .const none 8,
    queue := s.llc.queue ++ (List.finRange 8).filter fun r => s.ct.configured r && !s.llc.queue.contains r,
    state := if s.llc.state = .init then .run else s.llc.state,
    reInit := if s.llc.state = .init then some 0 else s.llc.reInit } := by
  have rows : ((allRows.filter fun r => s.ct.configured r && true).filter fun r => !s.llc.queue.contains r) =
      (List.finRange 8).filter fun r => s.ct.configured r && !s.llc.queue.contains r := by
    rw [List.filter_filter]
    exact List.filter_congr fun r _ => by rw [Bool.and_true, Bool.and_comm]
  have posts : ((s.setLlc { s.llc with taken := .const none 8 }).postRows fun _ => true).llc = { s.llc with
      taken := .const none 8,
      queue := s.llc.queue ++ (List.finRange 8).filter fun r => s.ct.configured r && !s.llc.queue.contains r } := by
    rw [postRows_llc, ← rows]
    rfl
  by_cases init : s.llc.state = .init
  · rw [initDone_of_init init, if_pos init, if_pos init]
    simp [posts]
  · rw [initDone_of_ne init, if_neg init, if_neg init, posts]

theorem burstDone_llc (s : State) (r : Fin 8) (first : Nat) (bays : List StagedBay) :
    (s.burstDone r first bays).llc = { (s.burstRecorded r first bays).llc with
      queue := if (s.burstRecorded r first bays).rowDiffers r = true then posted s.llc r else s.llc.queue } := by
  rw [burstDone_eq]
  cases differs : (s.burstRecorded r first bays).rowDiffers r with
  | true =>
    have configured : s.ct.configured r = true := configured_of_rowDiffers (s := s.burstRecorded r first bays) differs
    rw [configured]
    simp only [Bool.and_true, if_true, setLlc_llc, post_posted]
    rfl
  | false => simp [burstRecorded]

/-- What a burst's staged entry gives a cell (R129). -/
theorem burstTaken_eq (s : State) (r : Fin 8) (first : Nat) (bays : List StagedBay) (c : Fin 256) : s.burstTaken r first bays c =
    if rowOf c = r ∧ s.ct.present c = true ∧ first ≤ (bayOf c).val ∧
        (bays[(bayOf c).val - first]?.map StagedBay.staged) = some true then
      bays[(bayOf c).val - first]?.map StagedBay.level
    else s.llc.taken.get c := by
  unfold burstTaken stagedAt
  by_cases own : rowOf c = r ∧ s.ct.present c = true
  · by_cases reached : first ≤ (bayOf c).val
    · cases entry : bays[(bayOf c).val - first]? with
      | none => simp [own, reached]
      | some b => cases staged : b.staged <;> simp [own, reached, staged]
    · simp [own, reached]
  · rw [if_neg own, if_neg fun all => own ⟨all.1, all.2.1⟩]

theorem burstRecorded_ages (s : State) (r : Fin 8) (first : Nat) (bays : List StagedBay) (x : Fin 8) :
    (s.burstRecorded r first bays).llc.ages.get x = if x = r ∧ s.ct.configured r = true then some 0 else s.llc.ages.get x := by
  show (if s.ct.configured r = true then s.llc.ages.set r (some 0) else s.llc.ages).get x = _
  by_cases configured : s.ct.configured r = true
  · by_cases own : x = r
    · subst own; simp [configured]
    · simp [configured, own, Ne.symm own]
  · simp [configured]

theorem cutDone_burst (s : State) (r : Fin 8) (first : Nat) (bays : List StagedBay) : (s.cutDone (.burst r first bays)).llc =
    { s.llc with queue := if s.ct.configured r = true then posted s.llc r else s.llc.queue } := by
  rw [cutDone]
  split
  · exact post_posted s.llc r
  · rfl

section
variable {s : State} {f : Flight}

theorem ended_whole (whole : f.cut = false) : ended s f = (s.frameDone f.frame).setLlc { (s.frameDone f.frame).llc with flight := none } := by
  simp [ended, whole]

theorem ended_cut (cut : f.cut = true) : ended s f = (s.cutDone f.frame).setLlc { (s.cutDone f.frame).llc with flight := none } := by
  simp [ended, cut]

/-- The link and the other blocks after an INIT group (R125). -/
theorem ended_init (frame : f.frame = .initGroup) (whole : f.cut = false) :
    (ended s f).llc = { s.llc with
      flight := none, taken := .const none 8,
      queue := s.llc.queue ++ (List.finRange 8).filter fun r => s.ct.configured r && !s.llc.queue.contains r,
      state := if s.llc.state = .init then .run else s.llc.state,
      reInit := if s.llc.state = .init then some 0 else s.llc.reInit } ∧
    (s.llc.state = .init → s.keepsBut [.llc, .fdu, .fsc] (ended s f) ∧ (ended s f).fdu = { s.fdu with timer := some 0 } ∧
      (ended s f).fsc = { s.fsc with part := .run }) ∧
    (s.llc.state ≠ .init → s.keepsBut [.llc] (ended s f)) := by
  rw [ended_whole whole, frame]
  refine ⟨?_, fun init => ?_, fun started => ?_⟩
  · show { s.initDone.llc with flight := none } = _
    rw [initDone_llc]
  · refine ⟨keepsBut_of (ct := fun _ => initDone_ct s) (slu := fun _ => initDone_slu s) (dle := fun _ => initDone_dle s)
      (rlu := fun _ => initDone_rlu s) (lau := fun _ => initDone_lau s) (sst := fun _ => initDone_sst s) (zbi := fun _ => initDone_zbi s)
      (queue := fun _ => initDone_pending s), ?_⟩
    show s.initDone.fdu = _ ∧ s.initDone.fsc = _
    rw [initDone_of_init init]
    exact ⟨rfl, rfl⟩
  · obtain ⟨-, -, fdu, fsc⟩ := frameDone_link started .initGroup
    exact keepsBut_of (ct := fun _ => initDone_ct s) (slu := fun _ => initDone_slu s) (dle := fun _ => initDone_dle s)
      (rlu := fun _ => initDone_rlu s) (lau := fun _ => initDone_lau s) (fdu := fun _ => fdu) (fsc := fun _ => fsc)
      (sst := fun _ => initDone_sst s) (zbi := fun _ => initDone_zbi s) (queue := fun _ => initDone_pending s)

/-- A BURST, an ALL-TOUCH, a SHED and a cut frame change the link alone. -/
theorem keepsBut_ended (kind : f.frame = .initGroup → f.cut = true) : s.keepsBut [.llc] (ended s f) := by
  rcases f with ⟨frame, elapsed, ends, cut⟩
  cases cut with
  | true =>
    rw [ended_cut rfl]
    exact keepsBut_of (ct := fun _ => cutDone_ct s frame) (slu := fun _ => cutDone_slu s frame) (dle := fun _ => cutDone_dle s frame)
      (rlu := fun _ => cutDone_rlu s frame) (lau := fun _ => cutDone_lau s frame) (fdu := fun _ => cutDone_fdu s frame)
      (fsc := fun _ => cutDone_fsc s frame) (sst := fun _ => cutDone_sst s frame) (zbi := fun _ => cutDone_zbi s frame)
      (queue := fun _ => cutDone_pending s frame)
  | false =>
    rw [ended_whole rfl]
    cases frame with
    | initGroup => exact absurd (kind rfl) (by simp)
    | burst r first bays | allTouch | shed levels =>
      exact keepsBut_of (ct := fun _ => by simp [frameDone]) (slu := fun _ => by simp [frameDone]) (dle := fun _ => by simp [frameDone])
        (rlu := fun _ => by simp [frameDone]) (lau := fun _ => by simp [frameDone]) (fdu := fun _ => by simp [frameDone])
        (fsc := fun _ => by simp [frameDone]) (sst := fun _ => by simp [frameDone]) (zbi := fun _ => by simp [frameDone])
        (queue := fun _ => by simp [frameDone])

/-- The link after a BURST (R129). -/
theorem ended_burst {r : Fin 8} {first : Nat} {bays : List StagedBay} (frame : f.frame = .burst r first bays) (whole : f.cut = false) :
    (ended s f).llc = { s.llc with
      flight := none, taken := (s.burstRecorded r first bays).llc.taken, ages := (s.burstRecorded r first bays).llc.ages,
      queue := if (s.burstRecorded r first bays).rowDiffers r = true then posted s.llc r else s.llc.queue } := by
  rw [ended_whole whole, frame]
  show { (s.burstDone r first bays).llc with flight := none } = _
  rw [burstDone_llc]
  rfl

/-- The link after an ALL-TOUCH (R130, R141). -/
theorem ended_allTouch (frame : f.frame = .allTouch) (whole : f.cut = false) :
    (ended s f).llc = { s.llc with
      flight := none, ages := s.touchAll.llc.ages, interval := s.llc.pendingInterval.getD s.llc.interval, pendingInterval := none } := by
  rw [ended_whole whole, frame]
  show { s.touchAll.applyInterval.llc with flight := none } = _
  rw [applyInterval_llc]
  rfl

/-- The taken levels after a SHED (R130). -/
def shedTaken (s : State) (levels : Table Nat 3) (c : Fin 256) : Option Nat :=
  if s.ct.present c = true then (s.llc.taken.get c).map fun v => min v (levels.get (rowOf c)) else s.llc.taken.get c

/-- The link after a SHED (R130, R141). -/
theorem ended_shed {levels : Table Nat 3} (frame : f.frame = .shed levels) (whole : f.cut = false) :
    (ended s f).llc = { s.llc with
      flight := none,
      taken := .ofFn (shedTaken s levels), ages := s.touchAll.llc.ages, interval := s.llc.pendingInterval.getD s.llc.interval, pendingInterval := none } := by
  rw [ended_whole whole, frame]
  show { (s.shedDone levels).llc with flight := none } = _
  rw [shedDone, applyInterval_llc]
  rfl

theorem touchAll_age (r : Fin 8) : s.touchAll.llc.ages.get r = if s.ct.configured r = true then some 0 else s.llc.ages.get r := by
  simp

/-- With a SHED pending and the latch set, a completion in RUN is followed by the SHED. -/
theorem ended_shedNext (kind : f.frame = .initGroup → f.cut = true) (run : s.llc.state = .run) (pending : s.llc.pendingShed = true)
    (latch : s.fsc.latch = true) : (ended s f).prompt.llc.pendingShed = false ∧
      (ended s f).prompt.llc.flight = some ⟨.shed (s.ct.rows.map RowRecord.shedLevel), 0, 231, false⟩ := by
  have keeps := keepsBut_ended (s := s) kind
  have link : (ended s f).llc.state = s.llc.state ∧ (ended s f).llc.flight = none ∧ (ended s f).llc.pendingShed = s.llc.pendingShed := by
    rcases f with ⟨frame, elapsed, ends, cut⟩
    cases cut with
    | true =>
      rw [ended_cut rfl]
      cases frame with
      | burst r first bays => rw [cutDone_burst]; exact ⟨rfl, rfl, rfl⟩
      | initGroup | allTouch | shed levels => exact ⟨rfl, rfl, rfl⟩
    | false =>
      cases frame with
      | initGroup => exact absurd (kind rfl) (by simp)
      | burst r first bays => rw [ended_burst rfl rfl]; exact ⟨rfl, rfl, rfl⟩
      | allTouch => rw [ended_allTouch rfl rfl]; exact ⟨rfl, rfl, rfl⟩
      | shed levels => rw [ended_shed rfl rfl]; exact ⟨rfl, rfl, rfl⟩
  obtain ⟨state, free, keptPending⟩ := link
  have fsc : (ended s f).fsc = s.fsc := keeps .fsc (by simp)
  exact shed_next (state.trans run) free pending latch keptPending (congrArg _ fsc) (keeps .ct (by simp))

end

/-! ### Each completion -/

section
variable {s : State} {f : Flight} (free : s.fsc.resetHeld = false) (flight : s.llc.flight = some f)
include free flight

theorem exec_initGroupComplete (frame : f.frame = .initGroup) (whole : f.cut = false) : exec .initGroupComplete s = .next (ended s f).prompt :=
  exec_completes free flight (kind := isInit) (by simp [isInit, frame, whole])

theorem exec_burstComplete {r : Fin 8} {first : Nat} {bays : List StagedBay} (frame : f.frame = .burst r first bays) (whole : f.cut = false) :
    exec .burstComplete s = .next (ended s f).prompt := exec_completes free flight (kind := isBurst) (by simp [isBurst, frame, whole])

theorem exec_allTouchComplete (frame : f.frame = .allTouch) (whole : f.cut = false) : exec .allTouchComplete s = .next (ended s f).prompt :=
  exec_completes free flight (kind := isAllTouch) (by simp [isAllTouch, frame, whole])

theorem exec_shedFrameComplete {levels : Table Nat 3} (frame : f.frame = .shed levels) (whole : f.cut = false) :
    exec .shedFrameComplete s = .next (ended s f).prompt := exec_completes free flight (kind := isShed) (by simp [isShed, frame, whole])

theorem exec_cutFrameComplete (cut : f.cut = true) : exec .cutFrameComplete s = .next (ended s f).prompt :=
  exec_completes free flight (kind := isCut) cut

end

/-- Settles O50. -/
theorem framesComplete : Obligations.FramesComplete := by
  intro s f free flight
  refine ⟨fun frame whole => ?init, fun r first bays frame whole => ?burst, fun frame whole => ?allTouch, fun levels frame whole => ?shed,
    fun cut => ?cut⟩
  case init =>
    obtain ⟨link, starts, keeps⟩ := ended_init (s := s) frame whole
    refine ⟨ended s f, _, exec_initGroupComplete free flight frame whole, rfl, ?_, fun c => ?_, fun r configured => ?_, fun init => ?_, keeps,
      fun run pending latch => ?_⟩
    · rw [link]
    · rw [link]; exact Table.get_const none c
    · refine prompt_rowInHand ?_
      rw [link]
      by_cases queued : r ∈ s.llc.queue
      · exact List.mem_append_left _ queued
      · exact List.mem_append_right _ (List.mem_filter.mpr ⟨List.mem_finRange r, by simp [configured, queued]⟩)
    · obtain ⟨kept, fdu, fsc⟩ := starts init
      refine ⟨kept, fdu, fsc, fun pending latch => shed_next ?_ ?_ pending latch ?_ ?_ (kept .ct (by simp))⟩
      · rw [link]; exact if_pos init
      · rw [link]
      · rw [link]
      · rw [fsc]
    · have kept := keeps (by simp [run])
      refine shed_next ?_ ?_ pending latch ?_ (congrArg _ (kept .fsc (by simp))) (kept .ct (by simp))
      · rw [link]; exact (if_neg (by simp [run])).trans run
      · rw [link]
      · rw [link]
  case burst =>
    have link := ended_burst (s := s) frame whole
    have kind : f.frame = .initGroup → f.cut = true := by simp [frame]
    have differs : (s.burstRecorded r first bays).rowDiffers r = true ↔ ∃ b : Fin 32, s.ct.present (cellAt r b) = true ∧
        ((ended s f).llc.taken.get (cellAt r b) = none ∨ s.fdu.levels.get (cellAt r b) ≠ (ended s f).llc.taken.get (cellAt r b)) := by
      rw [link]
      exact rowDiffers_iff (s.burstRecorded r first bays) r
    refine ⟨ended s f, _, exec_burstComplete free flight frame whole, rfl, keepsBut_ended kind, ⟨fun h => ⟨?_, prompt_rowInHand ?_⟩, fun h => ?_⟩,
      fun c => ?_, fun x => ?_, ended_shedNext kind⟩
    · rw [link, if_pos (differs.mpr h)]; rfl
    · rw [link, if_pos (differs.mpr h)]; exact mem_posted _ _
    · rw [link, if_neg (mt differs.mp h)]
    · rw [link, ← burstTaken_eq]
      exact Table.get_ofFn_eq (d := 8) rfl rfl c
    · rw [link]
      exact burstRecorded_ages s r first bays x
  case allTouch =>
    have link := ended_allTouch (s := s) frame whole
    have kind : f.frame = .initGroup → f.cut = true := by simp [frame]
    refine ⟨ended s f, _, exec_allTouchComplete free flight frame whole, rfl, keepsBut_ended kind, ?_, fun r => ?_, ended_shedNext kind⟩
    · rw [link]
    · rw [link]; exact touchAll_age r
  case shed =>
    have link := ended_shed (s := s) frame whole
    have kind : f.frame = .initGroup → f.cut = true := by simp [frame]
    refine ⟨ended s f, _, exec_shedFrameComplete free flight frame whole, rfl, keepsBut_ended kind, ?_, fun c => ?_, fun r => ?_, ended_shedNext kind⟩
    · rw [link]
    · rw [link]; exact Table.get_ofFn_eq (f := shedTaken s levels) rfl rfl c
    · rw [link]; exact touchAll_age r
  case cut =>
    refine ⟨ended s f, _, exec_cutFrameComplete free flight cut, rfl, keepsBut_ended fun _ => cut, fun r first bays frame => ?_, fun frame => ?_,
      fun other => ?_, ended_shedNext fun _ => cut⟩
    · have link : (ended s f).llc = { s.llc with
          flight := none, queue := if s.ct.configured r = true then posted s.llc r else s.llc.queue } := by
        rw [ended_cut cut, frame, setLlc_llc, cutDone_burst]
      refine ⟨fun configured => ?_, fun absent => ?_⟩
      · rw [if_pos configured] at link
        refine ⟨link, prompt_rowInHand ?_⟩
        rw [link]
        exact mem_posted _ _
      · rw [link, if_neg (by simp [absent])]
    · have link : (ended s f).llc = { s.llc with flight := none, pendingInit := true } := by
        rw [ended_cut cut, frame]
        rfl
      exact ⟨link, prompt_pendingInit (by rw [link])⟩
    · rw [ended_cut cut]
      rcases other with frame | ⟨levels, frame⟩ <;> rw [frame] <;> rfl

end Sys2Proof.Proofs.LinkFrames
end

section
/-! PROOF. The drivers that receive the part's frames, and the levels of LTX that carry them (O51). -/

namespace Sys2Proof.Proofs.Drivers

open Sys2Proof.Machine Sys2Proof.Machine.State Sys2Proof.Proofs.Checks Sys2Proof.Proofs.LinkFrames

/-! ### Lists of equal pieces -/

/-- Element `i` of pieces of `n` elements each is element `i % n` of piece `i / n`. -/
theorem getElem?_flatMap_of_length {α β : Type} {f : α → List β} {n : Nat} (some : 0 < n) (len : ∀ x, (f x).length = n) (l : List α) (i : Nat) :
    (l.flatMap f)[i]? = l[i / n]?.bind fun x => (f x)[i % n]? := by
  induction l generalizing i with
  | nil => simp
  | cons x l ih =>
    rw [List.flatMap_cons]
    by_cases inside : i < n
    · rw [List.getElem?_append_left (by rw [len]; exact inside), Nat.div_eq_of_lt inside, Nat.mod_eq_of_lt inside]
      rfl
    · obtain ⟨j, rfl⟩ := Nat.exists_eq_add_of_le (Nat.le_of_not_lt inside)
      rw [List.getElem?_append_right (by rw [len]; omega), len, Nat.add_sub_cancel_left, ih, Nat.add_div_left j some, Nat.add_mod_left]
      rfl

/-- A level sent as two values, high first, at its place among others. -/
theorem levelValues_at {α : Type} (level : α → Nat) (l : List α) (k : Nat) :
    (l.flatMap fun x => levelValues (level x))[2 * k]? = l[k]?.map (fun x => level x / 256) ∧
    (l.flatMap fun x => levelValues (level x))[2 * k + 1]? = l[k]?.map (fun x => level x % 256) := by
  have pieces := getElem?_flatMap_of_length (f := fun x => levelValues (level x)) (n := 2) (by omega) (fun _ => rfl) l
  refine ⟨?_, ?_⟩
  · rw [pieces, Nat.mul_div_cancel_left k (by omega), Nat.mul_mod_right]
    cases l[k]? <;> rfl
  · rw [pieces, show (2 * k + 1) / 2 = k by omega, show (2 * k + 1) % 2 = 1 by omega]
    cases l[k]? <;> rfl

/-! ### One character -/

section
variable {d : Driver} (joined : d.joined = true)
include joined

/-- A data character adds its value to an open frame. -/
theorem receive_data (v : Nat) : d.receive (dataChar v) = ({ d with inits := 0 } : Driver).dataValue (v % 256) := by
  have value : (dataChar v).toNat = v % 256 := by simp [dataChar]; omega
  have other : dataChar v ≠ initChar := fun same => by
    have := congrArg BitVec.toNat same
    rw [value] at this
    simp [initChar, Machine.control] at this
    omega
  simp [Driver.receive, joined, other, value, show ¬256 ≤ v % 256 by omega]

theorem receive_control {low : Nat} (byte : low < 256) (other : low ≠ 0x55) :
    d.receive (Machine.control low) = ({ d with inits := 0 } : Driver).control low := by
  have value : (Machine.control low).toNat = 256 + low := by simp [Machine.control]; omega
  have notInit : Machine.control low ≠ initChar := fun same => by
    have := congrArg BitVec.toNat same
    rw [value] at this
    simp [initChar, Machine.control] at this
    omega
  simp [Driver.receive, joined, notInit, value, show (256 + low) % 256 = low by omega]

theorem receive_rowOpen (r : Fin 8) :
    d.receive (rowOpenChar r) = { d with inits := 0, frame := .burst (decide (r = d.row)) [] } := by
  have own : decide (0x10 + r.val - 0x10 = d.row.val) = decide (r = d.row) := decide_eq_decide.mpr (by rw [Fin.ext_iff]; omega)
  rw [rowOpenChar, receive_control joined (by omega) (by omega), Driver.control, if_neg (by omega), if_neg (by omega), if_neg (by omega),
    if_pos (by omega), own]

theorem receive_shed : d.receive shedChar = { d with inits := 0, frame := .shed [] } := receive_control joined (by omega) (by omega)

theorem receive_take : d.receive takeChar = ({ d with inits := 0 } : Driver).take := receive_control joined (by omega) (by omega)

/-- The data characters of a burst open in the driver. -/
theorem receiveAll_burst {own : Bool} {data : List Nat} (frame : d.frame = .burst own data) (fresh : d.inits = 0) (values : List Nat) :
    d.receiveAll (values.map dataChar) = { d with frame := .burst own (data ++ values.map (· % 256)) } := by
  induction values generalizing d data with
  | nil => rw [List.map_nil, List.map_nil, List.append_nil, ← frame]; rfl
  | cons v values ih =>
    have first : d.receive (dataChar v) = { d with frame := .burst own (data ++ [v % 256]) } := by
      rw [receive_data joined, Driver.dataValue, frame, ← fresh]
    rw [List.map_cons, Driver.receiveAll, List.foldl_cons, first]
    refine (ih (d := { d with frame := .burst own (data ++ [v % 256]) }) joined rfl fresh).trans ?_
    simp

/-- The data characters of a SHED frame open in the driver. -/
theorem receiveAll_shed {data : List Nat} (frame : d.frame = .shed data) (fresh : d.inits = 0) (values : List Nat) :
    d.receiveAll (values.map dataChar) = { d with frame := .shed (data ++ values.map (· % 256)) } := by
  induction values generalizing d data with
  | nil => rw [List.map_nil, List.map_nil, List.append_nil, ← frame]; rfl
  | cons v values ih =>
    have first : d.receive (dataChar v) = { d with frame := .shed (data ++ [v % 256]) } := by
      rw [receive_data joined, Driver.dataValue, frame, ← fresh]
    rw [List.map_cons, Driver.receiveAll, List.foldl_cons, first]
    refine (ih (d := { d with frame := .shed (data ++ [v % 256]) }) joined rfl fresh).trans ?_
    simp

end

theorem receiveAll_append (d : Driver) (l m : List LinkChar) : d.receiveAll (l ++ m) = (d.receiveAll l).receiveAll m := List.foldl_append

theorem receiveAll_cons (d : Driver) (c : LinkChar) (l : List LinkChar) : d.receiveAll (c :: l) = (d.receive c).receiveAll l := rfl

/-! ### Whole frames -/

/-- The values a frame carries with their check, as the driver keeps them. -/
def carried (values : List Nat) : List Nat := (values ++ [linkCheck values]).map (· % 256)

theorem carried_checks (values : List Nat) : Driver.checks (carried values) = true := by
  have sum := checkedData_sum values
  have chars : (checkedData values).map BitVec.toNat = carried values := by
    rw [checkedData, List.map_map, carried]
    refine List.map_congr_left fun v _ => ?_
    show v % 256 % 512 = v % 256
    omega
  rw [chars] at sum
  exact decide_eq_true sum

/-- A value carried with its check, where it is a byte. -/
theorem carried_getD {values : List Nat} {i v : Nat} (h : values[i]? = some v) (byte : v < 256) : (carried values).getD i 0 = v := by
  have inside : i < values.length := (List.getElem?_eq_some_iff.mp h).1
  have found : (carried values)[i]? = some v := by
    rw [carried, List.getElem?_map, List.getElem?_append_left inside, h]
    exact congrArg some (Nat.mod_eq_of_lt byte)
  rw [List.getD_eq_getElem?_getD, found]
  rfl

/-- What a burst's data carry: its first bay, their number, and their levels (R127). -/
def burstValues (first : Nat) (bays : List StagedBay) : List Nat := first :: bays.length :: bays.flatMap fun b => levelValues b.level

theorem levelAt_carried {values : List Nat} {i level : Nat} (high : values[i]? = some (level / 256)) (low : values[i + 1]? = some (level % 256))
    (within : level ≤ 1000) : Driver.levelAt (carried values) i = level := by
  rw [Driver.levelAt, carried_getD high (by omega), carried_getD low (by omega)]
  omega

theorem levelFor_carried {first : Nat} {bays : List StagedBay} (reach : first + bays.length ≤ 32) (levels : ∀ b ∈ bays, b.level ≤ 1000) (bay : Nat) :
    Driver.levelFor bay (carried (burstValues first bays)) = if first ≤ bay then bays[bay - first]?.map StagedBay.level else none := by
  have start : (carried (burstValues first bays)).getD 0 0 = first := carried_getD rfl (by omega)
  have count : (carried (burstValues first bays)).getD 1 0 = bays.length := carried_getD rfl (by omega)
  rw [Driver.levelFor, start, count]
  by_cases from_ : first ≤ bay
  · by_cases inside : bay < first + bays.length
    · have index : bay - first < bays.length := by omega
      obtain ⟨high, low⟩ := levelValues_at StagedBay.level bays (bay - first)
      rw [List.getElem?_eq_getElem index] at high low
      have place (j : Nat) : (burstValues first bays)[2 + j]? = (bays.flatMap fun b => levelValues b.level)[j]? := by
        rw [Nat.add_comm]; rfl
      rw [if_pos ⟨from_, inside⟩, if_pos from_, List.getElem?_eq_getElem index,
        levelAt_carried ((place _).trans high) ((place _).trans low) (levels _ (List.getElem_mem index))]
      rfl
    · rw [if_neg fun both => inside both.2, if_pos from_, List.getElem?_eq_none (by omega)]
      rfl
  · rw [if_neg fun both => from_ both.1, if_neg from_]

/-- A joined driver after a whole burst (R123, R127). -/
theorem receiveAll_wholeBurst {d : Driver} (joined : d.joined = true) (r : Fin 8) (first : Nat) (bays : List StagedBay) :
    d.receiveAll (Frame.burst r first bays).characters =
      ({ d with inits := 0, frame := .burst (decide (r = d.row)) (carried (burstValues first bays)) } : Driver).take := by
  rw [Frame.characters, receiveAll_cons, receive_rowOpen joined, receiveAll_append, checkedData,
    receiveAll_burst (d := { d with inits := 0, frame := .burst (decide (r = d.row)) [] }) joined rfl rfl]
  exact receive_take joined

/-- A joined driver after a whole SHED frame, whatever stood open in it (R123, R128). -/
theorem receiveAll_wholeShed {d : Driver} (joined : d.joined = true) (levels : Table Nat 3) :
    d.receiveAll (Frame.shed levels).characters =
      ({ d with inits := 0, frame := .shed (carried (levels.toList.flatMap levelValues)) } : Driver).take := by
  rw [Frame.characters, receiveAll_cons, receive_shed joined, receiveAll_append, checkedData,
    receiveAll_shed (d := { d with inits := 0, frame := .shed [] }) joined rfl rfl]
  exact receive_take joined

theorem levelAt_shed {levels : Table Nat 3} (within : ∀ x : Fin 8, levels.get x ≤ 1000) (r : Fin 8) :
    Driver.levelAt (carried (levels.toList.flatMap levelValues)) (2 * r.val) = levels.get r := by
  obtain ⟨high, low⟩ := levelValues_at (fun v : Nat => v) levels.toList r.val
  rw [Table.getElem?_toList levels r.isLt] at high low
  exact levelAt_carried high low (within r)

/-- A whole burst's effect on the lamp and the window, row by row (R123). -/
theorem wholeBurst_applied {d : Driver} (joined : d.joined = true) {r : Fin 8} {first : Nat} {bays : List StagedBay}
    (reach : first + bays.length ≤ 32) (levels : ∀ b ∈ bays, b.level ≤ 1000) :
    let e := d.receiveAll (Frame.burst r first bays).characters
    (d.row ≠ r → e.applied = d.applied ∧ e.window = d.window) ∧
    (d.row = r → e.window = 0 ∧
      e.applied = if first ≤ d.bay.val then ((bays[d.bay.val - first]?).map StagedBay.level).getD d.applied else d.applied) := by
  intro e
  have whole : e = _ := receiveAll_wholeBurst joined r first bays
  rw [whole]
  refine ⟨fun other => ?_, fun own => ?_⟩
  · have not : decide (r = d.row) = false := decide_eq_false (Ne.symm other)
    simp [Driver.take, not]
  · have is : decide (r = d.row) = true := decide_eq_true own.symm
    simp only [Driver.take, is, carried_checks, Bool.and_self, if_true, levelFor_carried reach levels, true_and]
    split <;> rfl

/-! ### A burst cut short -/

/-- The driver's row and lamp stand, and it stays joined. -/
def KeepsLamp (d e : Driver) : Prop := e.applied = d.applied ∧ e.row = d.row ∧ e.joined = true

theorem keepsLamp_receive {d : Driver} (joined : d.joined = true) {c : LinkChar} (h : (∃ r, c = rowOpenChar r) ∨ ∃ v, c = dataChar v) :
    KeepsLamp d (d.receive c) := by
  rcases h with ⟨r, rfl⟩ | ⟨v, rfl⟩
  · rw [receive_rowOpen joined]
    exact ⟨rfl, rfl, joined⟩
  · rw [receive_data joined, Driver.dataValue]
    split <;> exact ⟨rfl, rfl, joined⟩

theorem keepsLamp_receiveAll {l : List LinkChar} (h : ∀ c ∈ l, (∃ r, c = rowOpenChar r) ∨ ∃ v, c = dataChar v) {d : Driver}
    (joined : d.joined = true) : KeepsLamp d (d.receiveAll l) := by
  induction l generalizing d with
  | nil => exact ⟨rfl, rfl, joined⟩
  | cons c l ih =>
    obtain ⟨now, later⟩ := List.forall_mem_cons.mp h
    obtain ⟨applied, row, still⟩ := keepsLamp_receive joined now
    obtain ⟨applied', row', still'⟩ := ih later still
    exact ⟨applied'.trans applied, row'.trans row, still'⟩

/-- A burst short of its TAKE holds a ROW OPEN and data characters only (R127). -/
theorem opening_of_take {r : Fin 8} {first : Nat} {bays : List StagedBay} {sent : Nat} (short : sent < (Frame.burst r first bays).characters.length) :
    ∀ c ∈ (Frame.burst r first bays).characters.take sent, (∃ r, c = rowOpenChar r) ∨ ∃ v, c = dataChar v := by
  have spelled : (Frame.burst r first bays).characters = (rowOpenChar r :: checkedData (burstValues first bays)) ++ [takeChar] := rfl
  have within : sent ≤ (rowOpenChar r :: checkedData (burstValues first bays)).length := by
    rw [spelled, List.length_append, List.length_singleton] at short
    omega
  rw [spelled, List.take_append_of_le_length within]
  intro c mem
  rcases List.mem_cons.mp (List.mem_of_mem_take mem) with rfl | data
  · exact .inl ⟨r, rfl⟩
  · obtain ⟨v, -, rfl⟩ := List.mem_map.mp data
    exact .inr ⟨v, rfl⟩

/-- A whole SHED frame brings the lamp down to its row's shed level, whatever stood open (R123, R128). -/
theorem wholeShed_applied {d : Driver} (joined : d.joined = true) {levels : Table Nat 3} (within : ∀ x : Fin 8, levels.get x ≤ 1000) :
    (d.receiveAll (Frame.shed levels).characters).applied = min d.applied (levels.get d.row) ∧
    (d.receiveAll (Frame.shed levels).characters).window = 0 := by
  rw [receiveAll_wholeShed joined]
  simp [Driver.take, carried_checks, levelAt_shed within]

/-! ### LTX -/

/-- The ticks from the start of one character to the start of the next (R122, R125). -/
def unitOf (f : Frame) : Nat := if f = .initGroup then 33 else 11

/-- The level of LTX over a frame that is not cut: the bits of the character at the tick, and high between characters and after them. -/
theorem levels_getElem? (f : Frame) (i : Nat) : ∃ piece : LinkChar → List Bool,
    f.levels[i]? = f.characters[i / unitOf f]?.bind (fun c => (piece c)[i % unitOf f]?) ∧
      ∀ c, (piece c)[i % unitOf f]?.getD true = (linkLineBits c).getD (i % unitOf f) true := by
  have bits (c : LinkChar) : (linkLineBits c).length = 11 := by simp [linkLineBits]
  have plain (h : f.levels = f.characters.flatMap linkLineBits) (other : f ≠ .initGroup) : ∃ piece : LinkChar → List Bool,
      f.levels[i]? = f.characters[i / unitOf f]?.bind (fun c => (piece c)[i % unitOf f]?) ∧
        ∀ c, (piece c)[i % unitOf f]?.getD true = (linkLineBits c).getD (i % unitOf f) true := by
    refine ⟨linkLineBits, ?_, fun c => (List.getD_eq_getElem?_getD ..).symm⟩
    rw [h, unitOf, if_neg other]
    exact getElem?_flatMap_of_length (by omega) bits _ _
  cases f with
  | initGroup =>
    refine ⟨gapped, getElem?_flatMap_of_length (n := 33) (by omega) (fun c => ?_) _ _, fun c => ?_⟩
    · simp [gapped, bits, Timing.gap, Timing.character]
    · rw [← List.getD_eq_getElem?_getD, gapped]
      by_cases onLine : i % unitOf .initGroup < (linkLineBits c).length
      · exact List.getD_append _ _ _ _ onLine
      · rw [List.getD_append_right _ _ _ _ (Nat.le_of_not_lt onLine), List.getD_eq_default _ _ (Nat.le_of_not_lt onLine)]
        exact (List.getD_eq_getElem?_getD ..).trans (List.getElem?_getD_replicate_default_eq _ _ _)
  | burst r first bays | allTouch | shed levels => exact plain rfl (by simp)

theorem ltx_whole {s : State} {f : Flight} (on : s.llc.state ≠ .off) (flight : s.llc.flight = some f) (whole : f.cut = false) :
    s.ltx = f.frame.levels.getD f.elapsed true := by
  cases state : s.llc.state with
  | off => contradiction
  | init | run => simp [ltx, state, flight, Flight.level, whole]

/-- Settles O51. -/
theorem driversFollowTheFrames : Obligations.DriversFollowTheFrames := by
  refine ⟨fun d r first bays joined reach levels => ⟨?closed, wholeBurst_applied joined reach levels⟩,
    fun d r first bays sent levels joined reach short within => ?cut,
    fun s t f r first bays d free flight whole frame reach levels step joined row present from_ staged => ?recorded,
    fun s f on flight whole => ⟨fun c found => ?bits, fun after => ?rest⟩⟩
  case closed =>
    rw [receiveAll_wholeBurst joined]
    exact ⟨rfl, rfl, rfl⟩
  case cut =>
    dsimp only
    obtain ⟨applied, row, still⟩ := keepsLamp_receiveAll (opening_of_take short) joined
    rw [receiveAll_append, ← applied, ← row]
    exact wholeShed_applied still within
  case recorded =>
    cases (exec_burstComplete free flight frame whole).symm.trans step
    obtain ⟨entry, found, isStaged⟩ := Option.map_eq_some_iff.mp staged
    have lamp := (wholeBurst_applied joined reach levels).2 row
    rw [frame, lamp.2, if_pos from_, found, prompt_taken, ended_burst frame whole]
    refine (Table.get_ofFn_eq (d := 8) rfl rfl (cellAt r d.bay)).trans ?_
    rw [burstTaken_eq, rowOf_cellAt, bayOf_cellAt, if_pos ⟨rfl, present, from_, staged⟩, found]
    rfl
  case bits =>
    obtain ⟨piece, level, high⟩ := levels_getElem? f.frame f.elapsed
    rw [ltx_whole on flight whole, List.getD_eq_getElem?_getD, level, show f.frame.characters[f.elapsed / unitOf f.frame]? = some c from found]
    exact high c
  case rest =>
    obtain ⟨piece, level, -⟩ := levels_getElem? f.frame f.elapsed
    have past : f.frame.characters[f.elapsed / unitOf f.frame]? = none :=
      List.getElem?_eq_none ((Nat.le_div_iff_mul_le (by unfold unitOf; split <;> omega)).mpr after)
    rw [ltx_whole on flight whole, List.getD_eq_getElem?_getD, level, past]
    rfl

end Sys2Proof.Proofs.Drivers
end

section
/-! PROOF. The outcomes of polls (O42, O43), and the timers and lines of the sensor links (O44). -/

namespace Sys2Proof.Proofs.Polls

open Sys2Proof.Machine Sys2Proof.Machine.State Sys2Proof.Proofs.Idle Sys2Proof.Proofs.Sensors

/-! ### One sensor's change -/

/-- One sensor and its section take a new record and a hand-off; everything else stands (R35). -/
structure Moved (s : State) (i : Fin 16) (x : Sensor × HandOff) (t : State) : Prop where
  keeps : s.keepsBut [.slu, .dle] t
  slu : t.slu = { s.slu with sensors := t.slu.sensors }
  dle : t.dle = { s.dle with sections := t.dle.sections }
  others : ∀ j, j ≠ i → t.slu.sensors.get j = s.slu.sensors.get j ∧ t.dle.sections.get j = s.dle.sections.get j
  sensor : t.slu.sensors.get i = x.1
  handed : t.dle.sections.get i = (s.dle.sections.get i).take x.2

theorem moved_putSensor (s : State) (i : Fin 16) (x : Sensor × HandOff) : Moved s i x (s.putSensor i x) where
  keeps := keepsBut_of (ct := fun _ => rfl) (rlu := fun _ => rfl) (lau := fun _ => rfl) (fdu := fun _ => rfl) (llc := fun _ => rfl)
    (fsc := fun _ => rfl) (sst := fun _ => rfl) (zbi := fun _ => rfl) (queue := fun _ => rfl)
  slu := rfl
  dle := rfl
  others j other := ⟨Table.get_set_ne _ _ (Ne.symm other) rfl, Table.get_set_ne _ _ (Ne.symm other) rfl⟩
  sensor := Table.get_set_self _ _ _
  handed := Table.get_set_self _ _ _

/-! ### Replies judged -/

section
variable {c1 c2 c3 : RxChar} {p : Fin 4}

/-- The characters' stop bits are high. -/
def Framed (c1 c2 c3 : RxChar) : Prop := c1.stop = true ∧ c2.stop = true ∧ c3.stop = true

/-- The characters' parities are even. -/
def Even (c1 c2 c3 : RxChar) : Prop :=
  c1.parity = evenParity c1.data ∧ c2.parity = evenParity c2.data ∧ c3.parity = evenParity c3.data

/-- The reply's check holds for the position polled. -/
def Sums (p : Fin 4) (c1 c2 c3 : RxChar) : Prop := (p.val + c1.data.toNat + c2.data.toNat + c3.data.toNat) % 256 = 0

theorem framing_iff : (framingError c1 || framingError c2 || framingError c3) = true ↔ ¬Framed c1 c2 c3 := by
  cases h1 : c1.stop <;> cases h2 : c2.stop <;> cases h3 : c3.stop <;> simp [framingError, Framed, h1, h2, h3]

theorem parity_iff : (parityError c1 || parityError c2 || parityError c3) = true ↔ ¬Even c1 c2 c3 := by
  simp only [parityError, Even, Bool.or_eq_true, bne_iff_ne]
  tauto

theorem check_iff : byteSum [pollChar p, c1.data, c2.data, c3.data] ≠ 0 ↔ ¬Sums p c1 c2 c3 := by
  rw [Sums, not_iff_not, ← BitVec.toNat_inj]
  have position := p.isLt
  simp only [byteSum, pollChar, List.foldl_cons, List.foldl_nil, BitVec.toNat_add, BitVec.toNat_ofNat]
  omega

theorem judgeReply_framing (h : ¬Framed c1 c2 c3) : judgeReply p c1 c2 c3 = .error .framing := if_pos (framing_iff.mpr h)

section
variable (framed : Framed c1 c2 c3)
include framed

theorem judgeReply_parity (h : ¬Even c1 c2 c3) : judgeReply p c1 c2 c3 = .error .parity :=
  (if_neg (mt framing_iff.mp (not_not_intro framed))).trans (if_pos (parity_iff.mpr h))

variable (even : Even c1 c2 c3)
include even

theorem judgeReply_check (h : ¬Sums p c1 c2 c3) : judgeReply p c1 c2 c3 = .error .check :=
  (if_neg (mt framing_iff.mp (not_not_intro framed))).trans
    ((if_neg (mt parity_iff.mp (not_not_intro even))).trans (if_pos (check_iff.mpr h)))

/-- A reply without a fault of its characters is judged by its status (R29). -/
theorem judgeReply_status (sums : Sums p c1 c2 c3) : judgeReply p c1 c2 c3 =
    match c1.data.toNat % 4 with
    | 0 => .valid (sampleOf c1.data c2.data) false
    | 1 => .valid (sampleOf c1.data c2.data) true
    | _ => .error .sensorFault :=
  (if_neg (mt framing_iff.mp (not_not_intro framed))).trans
    ((if_neg (mt parity_iff.mp (not_not_intro even))).trans (if_neg (mt check_iff.mp (not_not_intro sums))))

theorem judgeReply_sensorFault (sums : Sums p c1 c2 c3) (h : 2 ≤ c1.data.toNat % 4) : judgeReply p c1 c2 c3 = .error .sensorFault := by
  rw [judgeReply_status framed even sums]
  split
  · omega
  · omega
  · rfl

theorem judgeReply_ok (sums : Sums p c1 c2 c3) (h : c1.data.toNat % 4 ≤ 1) :
    judgeReply p c1 c2 c3 = .valid (sampleOf c1.data c2.data) (decide (c1.data.toNat % 4 = 1)) := by
  rw [judgeReply_status framed even sums]
  rcases (by omega : c1.data.toNat % 4 = 0 ∨ c1.data.toNat % 4 = 1) with zero | one
  · simp [zero]
  · simp [one]

end

end

/-! ### Limits -/

/-- The reply's own times are within both limits (R28). -/
def InTime (c1 c2 c3 : RxChar) : Prop := c1.gap ≤ 3 * 11 ∧ 3 * 11 + c2.gap + c3.gap ≤ 6 * 11

/-- The poll's own count is within both limits (R28). -/
def CountInTime (q : Poll) (bit : Nat) : Prop :=
  (q.started = none → 24576 * q.elapsed < (11 + 3 * 11) * bit) ∧ ∀ e, q.started = some e → 24576 * (q.elapsed - e) < 6 * 11 * bit

theorem pollLapsed_eq_false {s : State} {l : Fin 4} {q : Poll} (flight : s.slu.inFlight.get l = some q) :
    s.pollLapsed l = false ↔ CountInTime q (s.slu.bitUnits l) := by
  have lapsed : s.pollLapsed l = s.slu.pollOver l q := by rw [pollLapsed, flight]; rfl
  rw [lapsed, ← Bool.not_eq_true, pollOver_iff, CountInTime]
  cases q.started <;> simp

theorem inTime_iff {c1 c2 c3 : RxChar} : InTime c1 c2 c3 ↔ c1.gap ≤ startLimit ∧ replyLength c2 c3 ≤ completionLimit := by
  norm_num [InTime, startLimit, replyLength, completionLimit, characterBits]

theorem timedReply_timely {lapsed : Bool} {p : Fin 4} {c1 c2 c3 : RxChar} (count : lapsed = false) (times : InTime c1 c2 c3) :
    timedReply lapsed p c1 c2 c3 = judgeReply p c1 c2 c3 := if_pos ⟨count, inTime_iff.mp times⟩

theorem timedReply_late {lapsed : Bool} {p : Fin 4} {c1 c2 c3 : RxChar} (late : ¬(lapsed = false ∧ InTime c1 c2 c3)) :
    timedReply lapsed p c1 c2 c3 = .error .noReply := if_neg fun all => late ⟨all.1, inTime_iff.mpr all.2⟩

/-! ### Polls ended -/

/-- What an outcome does to the sensor. -/
def outcomeOn (r : Sensor) : ReplyOutcome → Sensor × HandOff
  | .error e => r.onError e
  | .valid x saturated => r.onValid x saturated

/-- The part with the poll in flight on link `l` over, and its receive line as given. -/
def pollEnded (s : State) (l : Fin 4) (lines : Table RxLine 2) : State :=
  s.setSlu { s.slu with inFlight := s.slu.inFlight.set l none, lines }

/-- The receive lines after a reply whose last character is `c`. -/
def afterReply (s : State) (l : Fin 4) (c : RxChar) : Table RxLine 2 :=
  s.slu.lines.set l ⟨none, if c.stop = true then none else (s.slu.lines.get l).low⟩

theorem exec_sensorReply {s : State} (free : s.fsc.resetHeld = false) {l : Fin 4} (c1 c2 c3 : RxChar) :
    exec (.sensorReply l c1 c2 c3) s = .next (s.replyOn l c1 c2 c3) := unlessHeld_free free fun s => s.replyOn l c1 c2 c3

theorem exec_noReply {s : State} (free : s.fsc.resetHeld = false) (l : Fin 4) : exec (.noReply l) s = .next (s.noReplyOn l) :=
  unlessHeld_free free fun s => s.noReplyOn l

section
variable {s : State} {l : Fin 4} {q : Poll} (flight : s.slu.inFlight.get l = some q)
include flight

theorem replyOn_eq (c1 c2 c3 : RxChar) : s.replyOn l c1 c2 c3 =
    (pollEnded s l (afterReply s l c3)).putSensor (sensorAt l q.position)
      (outcomeOn (s.slu.sensors.get (sensorAt l q.position)) (timedReply (s.pollLapsed l) q.position c1 c2 c3)) := by
  rw [replyOn, endPoll_some (s := s.setSlu (s.slu.replyEnds l c3)) flight]
  rfl

theorem noReplyOn_eq : s.noReplyOn l =
    (pollEnded s l s.slu.lines).putSensor (sensorAt l q.position) ((s.slu.sensors.get (sensorAt l q.position)).onError .noReply) := by
  rw [noReplyOn, endPoll_some flight]
  rfl

end

/-- Nothing but the link's poll and line stands between the part and the part with the poll over. -/
theorem keepsBut_pollEnded (s : State) (l : Fin 4) (lines : Table RxLine 2) : s.keepsBut [.slu, .dle] (pollEnded s l lines) :=
  keepsBut_of (ct := fun _ => rfl) (rlu := fun _ => rfl) (lau := fun _ => rfl) (fdu := fun _ => rfl) (llc := fun _ => rfl)
    (fsc := fun _ => rfl) (sst := fun _ => rfl) (zbi := fun _ => rfl) (queue := fun _ => rfl)

/-- What a poll that ends leaves as it was, and what it changes, but for the record and its hand-off. -/
theorem moved_pollEnded (s : State) (l : Fin 4) (lines : Table RxLine 2) (i : Fin 16) (x : Sensor × HandOff) :
    let t := (pollEnded s l lines).putSensor i x
    s.keepsBut [.slu, .dle] t ∧
      t.slu = { s.slu with sensors := t.slu.sensors, inFlight := s.slu.inFlight.set l none, lines } ∧
      t.dle = { s.dle with sections := t.dle.sections } ∧
      (∀ j, j ≠ i → t.slu.sensors.get j = s.slu.sensors.get j ∧ t.dle.sections.get j = s.dle.sections.get j) ∧
      t.slu.sensors.get i = x.1 ∧ t.dle.sections.get i = (s.dle.sections.get i).take x.2 :=
  have moved := moved_putSensor (pollEnded s l lines) i x
  ⟨keepsBut_trans (keepsBut_pollEnded s l lines) moved.keeps, rfl, rfl, moved.others, moved.sensor, moved.handed⟩

/-! ### The health machine -/

section
variable (r : Sensor) (x : Sample) (saturated : Bool)

/-- What every valid sample leaves in the record (R30, R32). -/
theorem onValid_fields :
    (r.onValid x saturated).1.sample = some x ∧ (r.onValid x saturated).1.saturated = saturated ∧ (r.onValid x saturated).1.errors = 0 ∧
      (r.onValid x saturated).1.since = 0 ∧ (r.onValid x saturated).1.lastError = r.lastError ∧
      (r.onValid x saturated).1.present = r.present := by
  unfold Sensor.onValid
  cases r.health with
  | recovering => dsimp only; split <;> exact ⟨rfl, rfl, rfl, rfl, rfl, rfl⟩
  | absent | waiting | fresh | stale | failed => exact ⟨rfl, rfl, rfl, rfl, rfl, rfl⟩

variable {r}

theorem onValid_waiting (h : r.health = .waiting) :
    (r.onValid x saturated).1.health = .fresh ∧ (r.onValid x saturated).2 = .seed x.lux := by
  rw [Sensor.onValid, h]; exact ⟨rfl, rfl⟩

theorem onValid_usable (h : r.health = .fresh ∨ r.health = .stale) :
    (r.onValid x saturated).1.health = .fresh ∧ (r.onValid x saturated).2 = .filterStep x.lux := by
  rcases h with h | h <;> rw [Sensor.onValid, h] <;> exact ⟨rfl, rfl⟩

theorem onValid_failed (h : r.health = .failed) :
    (r.onValid x saturated).1.health = .recovering ∧ (r.onValid x saturated).1.run = 1 ∧ (r.onValid x saturated).2 = .unseed := by
  rw [Sensor.onValid, h]; exact ⟨rfl, rfl, rfl⟩

theorem onValid_recovering (h : r.health = .recovering) (few : r.run + 1 < 4) :
    (r.onValid x saturated).1.health = .recovering ∧ (r.onValid x saturated).1.run = r.run + 1 ∧ (r.onValid x saturated).2 = .nothing := by
  simp [Sensor.onValid, h, show ¬4 ≤ r.run + 1 by omega]

theorem onValid_recovered (h : r.health = .recovering) (enough : 4 ≤ r.run + 1) :
    (r.onValid x saturated).1.health = .fresh ∧ (r.onValid x saturated).1.run = 0 ∧ (r.onValid x saturated).2 = .seed x.lux := by
  simp [Sensor.onValid, h, enough]

end

/-- Settles O42. -/
theorem validReplyMovesHealth : Obligations.ValidReplyMovesHealth := by
  intro s l c1 c2 c3 q free flight times count framed even sums status i old number range lux
  have timely : s.pollLapsed l = false := (pollLapsed_eq_false flight).mpr count
  have outcome : timedReply (s.pollLapsed l) q.position c1 c2 c3 = .valid ⟨number, range, lux⟩ (decide (c1.data.toNat % 4 = 1)) := by
    rw [timedReply_timely timely times, judgeReply_ok framed even sums status]
    rfl
  have step := (exec_sensorReply free c1 c2 c3).trans (congrArg Host.Outcome.next (replyOn_eq flight c1 c2 c3))
  rw [outcome, afterReply, if_pos framed.2.2] at step
  obtain ⟨keeps, slu, dle, others, sensor, handed⟩ := moved_pollEnded s l (s.slu.lines.set l ⟨none, none⟩) i
    (old.onValid ⟨number, range, lux⟩ (decide (c1.data.toNat % 4 = 1)))
  refine ⟨_, step, keeps, slu, dle, others, ?_⟩
  intro new sec' sec
  obtain ⟨sample, saturated, errors, since, lastError, present⟩ :=
    onValid_fields old ⟨number, range, lux⟩ (decide (c1.data.toNat % 4 = 1))
  have record : new = _ := sensor
  have handedTo : sec' = _ := handed
  rw [record, handedTo]
  refine ⟨sample, saturated, errors, since, lastError, present, fun h => ?_, fun h => ?_, fun h => ?_, fun h few => ?_, fun h enough => ?_⟩
  · obtain ⟨health, hand⟩ := onValid_waiting _ _ h
    exact ⟨health, by rw [hand]; rfl⟩
  · obtain ⟨health, hand⟩ := onValid_usable _ _ h
    exact ⟨health, by rw [hand]⟩
  · obtain ⟨health, run, hand⟩ := onValid_failed _ _ h
    exact ⟨health, run, by rw [hand]; rfl⟩
  · obtain ⟨health, run, hand⟩ := onValid_recovering _ _ h few
    exact ⟨health, run, by rw [hand]; rfl⟩
  · obtain ⟨health, run, hand⟩ := onValid_recovered _ _ h enough
    exact ⟨health, run, by rw [hand]; rfl⟩

/-! ### Error outcomes -/

/-- An error that makes the sensor FAILED: the eighth, or any in RECOVERING (R33). -/
def Fails (r : Sensor) : Prop :=
  (8 ≤ r.errors + 1 ∧ (r.health = .waiting ∨ r.health = .fresh ∨ r.health = .stale)) ∨ r.health = .recovering

theorem onError_fields (r : Sensor) (e : SensorError) :
    (r.onError e).1.lastError = some e ∧ (r.onError e).1.errors = min (r.errors + 1) 8 ∧ (r.onError e).1.sample = r.sample ∧
      (r.onError e).1.saturated = r.saturated ∧ (r.onError e).1.since = r.since ∧ (r.onError e).1.present = r.present := by
  unfold Sensor.onError
  cases r.health with
  | waiting | fresh | stale => dsimp only; split <;> exact ⟨rfl, rfl, rfl, rfl, rfl, rfl⟩
  | recovering | absent | failed => exact ⟨rfl, rfl, rfl, rfl, rfl, rfl⟩

theorem onError_fails {r : Sensor} (h : Fails r) (e : SensorError) : (r.onError e).1.health = .failed ∧ (r.onError e).2 = .unseed := by
  rcases h with ⟨eighth, health⟩ | health
  · have full : 8 ≤ min (r.errors + 1) 8 := le_min eighth (le_refl 8)
    rcases health with health | health | health <;> simp [Sensor.onError, health, full]
  · rw [Sensor.onError, health]; exact ⟨rfl, rfl⟩

theorem onError_stays {r : Sensor} (h : ¬Fails r) (e : SensorError) : (r.onError e).1.health = r.health ∧ (r.onError e).2 = .nothing := by
  unfold Fails at h
  push Not at h
  obtain ⟨counted, notRecovering⟩ := h
  unfold Sensor.onError
  cases health : r.health with
  | recovering => contradiction
  | absent | failed => exact ⟨rfl, rfl⟩
  | waiting | fresh | stale =>
    have few : ¬8 ≤ min (r.errors + 1) 8 := fun full => by
      have := counted (full.trans (min_le_left _ _))
      simp [health] at this
    dsimp only
    rw [if_neg few]
    exact ⟨rfl, rfl⟩

theorem onError_recovering {r : Sensor} (h : r.health = .recovering) (e : SensorError) :
    (r.onError e).1.run = 0 ∧ (r.errors = 0 → (r.onError e).1.errors = 1) :=
  ⟨by rw [Sensor.onError, h], fun zero => by rw [(onError_fields r e).2.1, zero]; rfl⟩

/-- Settles O43. -/
theorem errorOutcomesCounted : Obligations.ErrorOutcomesCounted := by
  intro s l c1 c2 c3 free lines
  refine ⟨fun idle => ⟨?_, ?_⟩, fun c e q flight kind => ?_⟩
  · rw [exec_sensorReply free, replyOn, endPoll_none (s := s.setSlu (s.slu.replyEnds l c3)) idle]
    rfl
  · rw [exec_noReply free, noReplyOn, endPoll_none idle]
  intro i old
  have step : exec c s = .next ((pollEnded s l (if c = .noReply l then s.slu.lines else lines)).putSensor i (old.onError e)) := by
    rcases kind with ⟨rfl, rfl⟩ | ⟨rfl, judged⟩
    · rw [exec_noReply free, noReplyOn_eq flight, if_pos rfl]
    have outcome : timedReply (s.pollLapsed l) q.position c1 c2 c3 = .error e := by
      rcases judged with ⟨late, rfl⟩ | ⟨⟨first, last, count⟩, fault⟩
      · refine timedReply_late fun timely => late ⟨timely.2.1, timely.2.2, (pollLapsed_eq_false flight).mp timely.1⟩
      · rw [timedReply_timely ((pollLapsed_eq_false flight).mpr count) ⟨first, last⟩]
        rcases fault with ⟨unframed, rfl⟩ | ⟨framed, odd, rfl⟩ | ⟨framed, even, wrong, rfl⟩ | ⟨framed, even, sums, status, rfl⟩
        · exact judgeReply_framing unframed
        · exact judgeReply_parity framed odd
        · exact judgeReply_check framed even wrong
        · exact judgeReply_sensorFault framed even sums status
    rw [exec_sensorReply free, replyOn_eq flight, outcome, if_neg (by simp)]
    rfl
  obtain ⟨keeps, slu, dle, others, sensor, handed⟩ := moved_pollEnded s l (if c = .noReply l then s.slu.lines else lines) i (old.onError e)
  refine ⟨_, step, keeps, slu, dle, others, ?_⟩
  intro new fails
  have record : new = _ := sensor
  rw [record, handed]
  obtain ⟨lastError, errors, sample, saturated, since, present⟩ := onError_fields old e
  refine ⟨lastError, errors, sample, saturated, since, present, fun h => ?_, fun h => ?_, fun h => onError_recovering h e⟩
  · obtain ⟨health, hand⟩ := onError_fails h e
    exact ⟨health, by rw [hand]; rfl⟩
  · obtain ⟨health, hand⟩ := onError_stays h e
    exact ⟨health, by rw [hand]; rfl⟩

/-! ### Health limits -/

theorem exec_healthTimeout {s : State} (free : s.fsc.resetHeld = false) (i : Fin 16) :
    exec (.healthTimeout i) s = .next (s.healthLimit i) := unlessHeld_free free fun s => s.healthLimit i

section
variable {r : Sensor}

theorem onTimeout_fields (r : Sensor) : r.onTimeout.1.errors = r.errors ∧ r.onTimeout.1.sample = r.sample := by
  unfold Sensor.onTimeout
  split <;> exact ⟨rfl, rfl⟩

theorem onTimeout_fresh (h : r.health = .fresh) : r.onTimeout.1.health = .stale ∧ r.onTimeout.2 = .nothing := by
  rw [Sensor.onTimeout, h]; exact ⟨rfl, rfl⟩

theorem onTimeout_failing (h : r.health = .stale ∨ r.health = .waiting) : r.onTimeout.1.health = .failed ∧ r.onTimeout.2 = .unseed := by
  rcases h with h | h <;> rw [Sensor.onTimeout, h] <;> exact ⟨rfl, rfl⟩

theorem onTimeout_without (h : r.health = .absent ∨ r.health = .failed ∨ r.health = .recovering) : r.onTimeout = (r, .nothing) := by
  rcases h with h | h | h <;> rw [Sensor.onTimeout, h]

end

/-! ### Poll timers -/

theorem exec_pollTimer {s : State} (free : s.fsc.resetHeld = false) (l : Fin 4) (event : PollEvent) :
    exec (.pollTimer l event) s = .next (s.pollEvent l event) := by
  show Host.Outcome.next (if s.fsc.resetHeld = true then _ else s.pollEvent l event) = _
  rw [if_neg (by simp [free])]

/-- The first present position after the last one polled (R26). -/
theorem nextPosition_eq {u : SensorLinks} {l k : Fin 4} {start : Nat}
    (after : (match u.lastPolled.get l with
      | none => 0
      | some last => last.val + 1) = start)
    (absent : ∀ j, j < k.val → (u.sensors.get (sensorAt l (Fin.ofNat 4 (start + j)))).present = false)
    (present : (u.sensors.get (sensorAt l (Fin.ofNat 4 (start + k.val)))).present = true) :
    u.nextPosition l = some (Fin.ofNat 4 (start + k.val)) := by
  have found : ((List.range 4).map fun i => Fin.ofNat 4 (start + i)).find? (fun p => (u.sensors.get (sensorAt l p)).present) =
      some (Fin.ofNat 4 (start + k.val)) := by
    rw [List.find?_eq_some_iff_getElem]
    refine ⟨present, k.val, by simp, by simp, fun j before => ?_⟩
    rw [List.getElem_map, List.getElem_range, absent j before]
    rfl
  rw [← found, ← after]
  rfl

/-- The link with its poll timer started anew. -/
def restarted (s : State) (l : Fin 4) : SensorLinks := { s.slu with timers := s.slu.timers.set l (some 0) }

/-- The link with a poll of position `p` sent (R26, R28). -/
def polled (s : State) (l p : Fin 4) : SensorLinks :=
  { restarted s l with inFlight := s.slu.inFlight.set l (some ⟨p, 0, none⟩), lastPolled := s.slu.lastPolled.set l (some p) }

/-- The link after an expiry of its poll timer (R26, R27). -/
def expired (s : State) (l : Fin 4) : SensorLinks :=
  if s.slu.busy l = true then restarted s l
  else
    match s.slu.nextPosition l with
    | none => restarted s l
    | some p => polled s l p

theorem pollExpiry_eq {s : State} {l : Fin 4} (runs : (s.slu.timers.get l).isSome = true) : s.pollExpiry l = s.setSlu (expired s l) := by
  obtain ⟨n, timer⟩ := Option.isSome_iff_exists.mp runs
  have busy : (restarted s l).busy l = s.slu.busy l := rfl
  have next : (restarted s l).nextPosition l = s.slu.nextPosition l := rfl
  unfold pollExpiry expired
  rw [timer]
  show (if (restarted s l).busy l = true then _ else match (restarted s l).nextPosition l with | none => _ | some p => _) = _
  rw [busy, next]
  split
  · rfl
  · cases s.slu.nextPosition l <;> rfl

theorem keepsBut_setSlu (s : State) (u : SensorLinks) : s.keepsBut [.slu] (s.setSlu u) :=
  keepsBut_of (ct := fun _ => rfl) (dle := fun _ => rfl) (rlu := fun _ => rfl) (lau := fun _ => rfl) (fdu := fun _ => rfl)
    (llc := fun _ => rfl) (fsc := fun _ => rfl) (sst := fun _ => rfl) (zbi := fun _ => rfl) (queue := fun _ => rfl)

theorem expired_busy {s : State} {l : Fin 4} (busy : s.slu.busy l = true) : expired s l = restarted s l := if_pos busy

theorem expired_next {s : State} {l p : Fin 4} (free : ¬s.slu.busy l = true) (next : s.slu.nextPosition l = some p) :
    expired s l = polled s l p := by
  rw [expired, if_neg free, next]

/-- What an expiry leaves of the links, whatever it polls. -/
theorem expired_link (s : State) (l : Fin 4) :
    expired s l = { s.slu with
      timers := s.slu.timers.set l (some 0), inFlight := (expired s l).inFlight, lastPolled := (expired s l).lastPolled } ∧
    ∀ m, m ≠ l → (expired s l).inFlight.get m = s.slu.inFlight.get m ∧ (expired s l).lastPolled.get m = s.slu.lastPolled.get m := by
  by_cases busy : s.slu.busy l = true
  · rw [expired_busy busy]
    exact ⟨rfl, fun _ _ => ⟨rfl, rfl⟩⟩
  cases next : s.slu.nextPosition l with
  | none =>
    have same : expired s l = restarted s l := by rw [expired, if_neg busy, next]
    rw [same]
    exact ⟨rfl, fun _ _ => ⟨rfl, rfl⟩⟩
  | some p =>
    rw [expired_next busy next]
    exact ⟨rfl, fun m other => ⟨Table.get_set_ne _ _ (Ne.symm other) rfl, Table.get_set_ne _ _ (Ne.symm other) rfl⟩⟩

/-- The busy test, spelled (R27). -/
def Busy (s : State) (l : Fin 4) : Prop :=
  (∃ n, (s.slu.lines.get l).character = some n ∧ 24576 * n < 10 * s.slu.bitUnits l) ∨
    ∃ n, (s.slu.lines.get l).low = some n ∧ 11 * s.slu.bitUnits l < 24576 * n

theorem busy_spelled (s : State) (l : Fin 4) : s.slu.busy l = true ↔ Busy s l := by
  rw [busy_iff, receiving_iff, heldLow_iff, Busy]

/-! ### Receive lines -/

section
variable {s : State} {l : Fin 4}

theorem lineFalls_low (low : (s.slu.lines.get l).low.isSome = true) : s.slu.lineFalls l = s.slu := if_pos low

theorem lineFalls_receiving (high : (s.slu.lines.get l).low = none) (receiving : s.slu.receiving l = true) :
    s.slu.lineFalls l = { s.slu with lines := s.slu.lines.set l ⟨(s.slu.lines.get l).character, some 0⟩ } :=
  (if_neg (by simp [high])).trans (if_pos receiving)

theorem lineFalls_start (high : (s.slu.lines.get l).low = none) (free : ¬s.slu.receiving l = true) :
    s.slu.lineFalls l = { s.slu with
      lines := s.slu.lines.set l ⟨some 0, some 0⟩,
      inFlight := s.slu.inFlight.set l ((s.slu.inFlight.get l).map fun q =>
        if q.started = none ∧ 11 * s.slu.bitUnits l ≤ 24576 * q.elapsed then { q with started := some q.elapsed } else q) } := by
  have starts (q : Poll) : (q.started.isNone && s.slu.lasted l characterBits q.elapsed) = true ↔
      q.started = none ∧ 11 * s.slu.bitUnits l ≤ 24576 * q.elapsed := by
    rw [Bool.and_eq_true, Option.isNone_iff_eq_none, SensorLinks.lasted, decide_eq_true_eq]
    rfl
  simp only [SensorLinks.lineFalls, high, Option.isSome_none, Bool.false_eq_true, if_false, free, starts]

end

/-- Settles O44. -/
theorem sensorTimersRunOut : Obligations.SensorTimersRunOut := by
  refine ⟨fun l p => ?position, fun s i free polling => ?timeout, fun s i still => ?still, fun s l held => ?held, fun s l free => ?line⟩
  case position =>
    show l.val * 4 + p.val = _
    omega
  case timeout =>
    have step : exec (.healthTimeout i) s = .next (s.putSensor i (s.slu.sensors.get i).onTimeout) := by
      rw [exec_healthTimeout free, healthLimit, if_pos polling]
    obtain ⟨keeps, slu, dle, others, sensor, handed⟩ := moved_putSensor s i (s.slu.sensors.get i).onTimeout
    refine ⟨_, step, keeps, slu, dle, others, ?_⟩
    dsimp only
    rw [sensor, handed]
    obtain ⟨errors, sample⟩ := onTimeout_fields (s.slu.sensors.get i)
    refine ⟨errors, sample, fun h => ?_, fun h => ?_, fun h => ?_⟩
    · obtain ⟨health, hand⟩ := onTimeout_fresh h
      exact ⟨health, by rw [hand]; rfl⟩
    · obtain ⟨health, hand⟩ := onTimeout_failing h
      exact ⟨health, by rw [hand]; rfl⟩
    · rw [onTimeout_without h]
      exact ⟨rfl, rfl⟩
  case still =>
    cases held : s.fsc.resetHeld with
    | true => exact unlessHeld_held held _
    | false => rw [exec_healthTimeout held, healthLimit, if_neg (by simp [still])]
  case held =>
    show Host.Outcome.next (if s.fsc.resetHeld = true then s else _) = _
    rw [if_pos held]
  case line =>
    intro k bit line receiving busy
    refine ⟨fun stopped => ?_, fun runs => ?_, fun low => ?_, fun high characters => ?_, fun high none => ?_, exec_pollTimer free l .rises⟩
    · rw [exec_pollTimer free, pollEvent, pollExpiry, stopped]
    · refine ⟨_, (exec_pollTimer free l .expires).trans (congrArg _ (pollExpiry_eq runs)), keepsBut_setSlu s _, ?_⟩
      obtain ⟨same, others⟩ := expired_link s l
      refine ⟨same, others, fun isBusy => ?_, fun notBusy k absent present => ?_⟩
      · rw [setSlu_slu, expired_busy ((busy_spelled s l).mpr isBusy)]
        exact ⟨rfl, rfl⟩
      · rw [setSlu_slu, expired_next (mt (busy_spelled s l).mp notBusy) (nextPosition_eq (k := k) rfl absent present)]
        exact ⟨Table.get_set_self _ _ _, Table.get_set_self _ _ _⟩
    · rw [exec_pollTimer free, pollEvent, lineFalls_low low]
      rfl
    · rw [exec_pollTimer free, pollEvent, lineFalls_receiving high ((receiving_iff _ _).mpr characters)]
    · have step : exec (.pollTimer l .falls) s = _ := (exec_pollTimer free l .falls).trans
        (congrArg (fun u => Host.Outcome.next (s.setSlu u)) (lineFalls_start high (mt (receiving_iff _ _).mp none)))
      exact ⟨_, step, keepsBut_setSlu s _, rfl, fun m other => Table.get_set_ne _ _ (Ne.symm other) rfl, Table.get_set_self _ _ _⟩

end Sys2Proof.Proofs.Polls
end

section
/-! PROOF. The five reads: what each reports, and that it changes nothing but the reply (O60). -/

namespace Sys2Proof.Proofs.Reads

open Sys2Proof.Machine Sys2Proof.Machine.State

/-! ### Codes at their places -/

/-- A health state in bits 7..5 (section 11.3). -/
def healthWeight : Health → Nat
  | .absent => 0
  | .waiting => 32
  | .fresh => 64
  | .stale => 96
  | .failed => 128
  | .recovering => 160

/-- A last error in bits 4..2. -/
def errorWeight : Option SensorError → Nat
  | none => 0
  | some .parity => 4
  | some .framing => 8
  | some .check => 12
  | some .noReply => 16
  | some .sensorFault => 20

/-- A source in bits 7..6. -/
def sourceWeight : Source → Nat
  | .own => 0
  | .lower => 64
  | .upper => 128
  | .dark => 192

/-- A kind in bits 7..6. -/
def kindWeight : Kind → Nat
  | .target => 0
  | .fixed => 64
  | .cap => 128

/-- A selector's form in bits 5..4. -/
def formWeight : Selector → Nat
  | .all => 0
  | .mask _ => 16
  | .rect _ _ _ _ => 32
  | .cell _ => 48

/-- A winner's kind where one stands for `unit`. -/
def winnerWeight (unit : Nat) : Winner → Nat
  | .base => 0
  | .target _ _ _ => unit
  | .fixed _ _ _ => 2 * unit

/-- A winner's kind in bits 15..14. -/
def winnerPlace : Winner → Nat
  | .base => 0
  | .target _ _ _ => 2 ^ 14
  | .fixed _ _ _ => 2 ^ 15

/-- A blind step in bits 4..0, 1Fh for UNKNOWN. -/
def stepShown : Option (Fin 16) → Nat
  | none => 31
  | some step => step.val

/-- A section's hold, up to 255 s. -/
def holdShown : Option Nat → Nat
  | none => 0
  | some hold => min hold 255

/-- A selector's parameters in two bytes. -/
def selectorShown : Selector → List Byte
  | .all => [0, 0]
  | .mask groups => [0, groups]
  | .rect r0 r1 b0 b1 => halfBytes (r0 * 2 ^ 13 + r1 * 2 ^ 10 + b0 * 2 ^ 5 + b1)
  | .cell number => [0, BitVec.ofNat 8 number.val]

theorem code_health (h : Health) : h.code * 32 = healthWeight h := by cases h <;> rfl

theorem code_error (e : Option SensorError) : errorCode e * 4 = errorWeight e := by
  match e with
  | none => rfl
  | some e => cases e <;> rfl

theorem code_source (x : Source) : x.code * 64 = sourceWeight x := by cases x <;> rfl

theorem code_kind (k : Kind) : k.code * 64 = kindWeight k := by cases k <;> rfl

theorem code_form (sel : Selector) : sel.form * 16 = formWeight sel := by cases sel <;> rfl

theorem step_shown (step : Option (Fin 16)) : (step.map Fin.val).getD 0x1F = stepShown step := by cases step <;> rfl

theorem hold_shown (hold : Option Nat) : min (hold.getD 0) 255 = holdShown hold := by
  cases hold with
  | none => rfl
  | some v => rfl

theorem selector_shown (sel : Selector) : sel.viewBytes = selectorShown sel := by
  cases sel with
  | rect r0 r1 b0 b1 => norm_num [Selector.viewBytes, selectorShown]
  | all | mask groups | cell number => rfl

theorem winnerWeight_place (w : Winner) : winnerWeight 16384 w = winnerPlace w := by
  cases w <;> norm_num [winnerWeight, winnerPlace]

theorem code_winner (unit : Nat) (w : Winner) : w.kindCode * unit = winnerWeight unit w := by
  cases w <;> simp [Winner.kindCode, winnerWeight]

theorem optHalfBytes_eq (v : Option Nat) : optHalfBytes v = halfBytes (v.getD 0xFFFF) := by
  cases v <;> simp [optHalfBytes, halfBytes]

/-! ### Pieces of equal length -/

/-- Past `k` pieces of `n` bytes stands piece `k`. -/
theorem drop_flatMap {α β : Type} {f : α → List β} {n : Nat} (len : ∀ x, (f x).length = n) (l : List α) (k : Nat) :
    (l.flatMap f).drop (n * k) = (l.drop k).flatMap f := by
  induction k generalizing l with
  | zero => rfl
  | succ k ih =>
    cases l with
    | nil => simp
    | cons x l =>
      rw [List.flatMap_cons, List.drop_succ_cons, ← ih, Nat.mul_succ, Nat.add_comm, ← List.drop_drop, ← len x, List.drop_left]

/-- A run of pieces: its length, and each piece at its place. -/
theorem run_pieces {β : Type} {f : Nat → List β} {n : Nat} (len : ∀ x, (f x).length = n) (m : Nat) :
    ((List.range m).flatMap f).length = n * m ∧ ∀ k, k < m → (((List.range m).flatMap f).drop (n * k)).take n = f k := by
  refine ⟨?_, fun k inside => ?_⟩
  · rw [List.length_flatMap, List.map_congr_left fun x _ => len x, List.map_const', List.sum_replicate, List.length_range, smul_eq_mul, Nat.mul_comm]
  · have here : (List.range m).drop k = k :: (List.range m).drop (k + 1) := by
      rw [List.drop_eq_getElem_cons (by simpa using inside), List.getElem_range]
    rw [drop_flatMap len, here, List.flatMap_cons, ← len k, List.take_left]

section
variable {s : State} {k : Request} {source : Byte} {p : List Byte} {n : Fin 8}

/-- A read answers with its data and leaves everything but the reply (R172 to R174). -/
theorem reads {status : Status} {data : List Byte} (h : s.Takes k source p n) (owner : ownerOf k n p s.taking = ⟨s.taking, status, data⟩) :
    request k.code source p s = .next (s.setZbi (repliedWith s.zbi status data)) := h.answered (t := s.taking) owner rfl

/-! ### Runs of sections and sensors -/

variable {bytes : State → Fin 16 → List Byte} (h : s.Takes k source p n) (owner : ownerOf k = viewRun bytes)
include h owner

theorem viewRun_refused (out : 15 < byteAt p 0 ∨ byteAt p 1 = 0 ∨ 16 < byteAt p 1) :
    request k.code source p s = .next (s.setZbi (repliedWith s.zbi .refusedFormat [])) :=
  h.refused (by rw [owner]; exact if_pos out)

/-- A run in range: its items one after another, cut short at 15 with DONE_CLAMPED (R173). -/
theorem viewRun_read (same : ∀ i, bytes s.taking i = bytes s i) (len : ∀ i, (bytes s i).length = 4) (first : byteAt p 0 ≤ 15)
    (some : 1 ≤ byteAt p 1) (most : byteAt p 1 ≤ 16) :
    ∃ data, request k.code source p s = .next (s.setZbi (repliedWith s.zbi
        (if 16 < byteAt p 0 + byteAt p 1 then .doneClamped else .done) data)) ∧
      data.length = 4 * min (byteAt p 1) (16 - byteAt p 0) ∧
      ∀ i : Fin 16, byteAt p 0 ≤ i.val → i.val < byteAt p 0 + byteAt p 1 → (data.drop (4 * (i.val - byteAt p 0))).take 4 = bytes s i := by
  obtain ⟨length, pieces⟩ := run_pieces (f := fun i => bytes s (Fin.ofNat 16 (byteAt p 0 + i))) (fun i => len _) (min (byteAt p 1) (16 - byteAt p 0))
  refine ⟨_, reads h ?_, length, fun i from_ inside => ?_⟩
  · have answer : viewRun bytes n p s.taking = _ := if_neg (show ¬(15 < byteAt p 0 ∨ byteAt p 1 = 0 ∨ 16 < byteAt p 1) by omega)
    rw [owner, answer]
    have cut : min (byteAt p 1) (16 - byteAt p 0) < byteAt p 1 ↔ 16 < byteAt p 0 + byteAt p 1 := by omega
    simp only [same, cut]
  · rw [pieces _ (by omega), Nat.add_sub_cancel' from_]
    exact congrArg (bytes s) (Fin.ext (Nat.mod_eq_of_lt i.isLt))

end

theorem sensorBytes_eq (r : Sensor) : sensorBytes r =
    [BitVec.ofNat 8 (healthWeight r.health + errorWeight r.lastError + bit r.saturated 1 + bit r.sample.isSome 0),
      BitVec.ofNat 8 (r.errors * 16 + (r.sample.map Sample.count).getD 0 / 256), BitVec.ofNat 8 ((r.sample.map Sample.count).getD 0),
      BitVec.ofNat 8 ((r.sample.map Sample.range).getD 0)] := by
  rw [sensorBytes, code_health, code_error]

theorem sectionBytes_eq (s : State) (i : Fin 16) : sectionBytes s i = halfBytes ((s.effective i).1 / 4) ++
    [BitVec.ofNat 8 (sourceWeight (s.effective i).2 + bit (s.dle.sections.get i).filtered.isSome 5 +
        stepShown (s.dle.sections.get i).step), BitVec.ofNat 8 (holdShown (s.dle.sections.get i).hold)] := by
  rw [sectionBytes, sectionByte, code_source, holdByte, step_shown, hold_shown]
  rfl

/-! ### Cells -/

/-- The bytes of a cell in a view (R172). -/
def View.width : View → Nat
  | .levels => 4
  | .goals | .targets | .daylight | .flags => 2

theorem length_optHalfBytes (v : Option Nat) : (optHalfBytes v).length = 2 := by cases v <;> rfl

theorem length_cellBytes (s : State) (v : View) (c : Fin 256) : (cellBytes s v c).length = View.width v := by
  cases v with
  | levels => simp [cellBytes, length_optHalfBytes, View.width]
  | daylight => exact length_optHalfBytes _
  | goals | targets | flags => rfl

/-- A cell's record in the view of a code, spelled (R172, section 11.3). -/
def shownCell (s : State) (code : Nat) (c : Fin 256) : List Byte :=
  match code with
  | 0 => halfBytes ((s.fdu.levels.get c).getD 0xFFFF) ++ halfBytes ((s.llc.taken.get c).getD 0xFFFF)
  | 1 => halfBytes (winnerPlace (s.rlu.resolved.get c).winner + (s.lau.cells.get c).lastGoal.getD 0x3FF)
  | 2 => halfBytes (targetShown s c)
  | 3 => halfBytes (((s.lau.cells.get c).lastDaylight.map fun v => min v 65534).getD 0xFFFF)
  | _ => halfBytes (flagsWord (s.ct.present c) (s.lau.cells.get c) (s.ct.frozenCell c))

/-- Each view by its code: its cells, their bytes, and the most of them in a read. -/
theorem view_spelled {code : Nat} (known : code ≤ 4) : ∃ v, View.ofCode code = some v ∧ View.width v = (if code = 0 then 4 else 2) ∧
    v.limit = (if code = 0 then 16 else 32) ∧ ∀ s c, cellBytes s v c = shownCell s code c := by
  match code, known with
  | 0, _ => exact ⟨.levels, rfl, rfl, rfl, fun s c => by rw [cellBytes, optHalfBytes_eq, optHalfBytes_eq]; rfl⟩
  | 1, _ => exact ⟨.goals, rfl, rfl, rfl, fun s c => by rw [cellBytes, goalsWord, code_winner, winnerWeight_place]; rfl⟩
  | 2, _ => exact ⟨.targets, rfl, rfl, rfl, fun s c => rfl⟩
  | 3, _ => exact ⟨.daylight, rfl, rfl, rfl, fun s c => by rw [cellBytes, daylightBytes, optHalfBytes_eq]; rfl⟩
  | 4, _ => exact ⟨.flags, rfl, rfl, rfl, fun s c => rfl⟩

section
variable {s : State} {source : Byte} {p : List Byte} {n : Fin 8} (h : s.Takes .readCells source p n)
include h

theorem exec_readCells {status : Status} {data : List Byte} (owner : viewCells n p s.taking = ⟨s.taking, status, data⟩) :
    exec (.readCells source p) s = .next (s.setZbi (repliedWith s.zbi status data)) := reads h owner

/-- A row, start, count or view out of range is refused (R172). -/
theorem readCells_refused (out : 7 < byteAt p 0 ∨ 31 < byteAt p 1 ∨ byteAt p 2 = 0 ∨ 32 < byteAt p 2 ∨ 4 < byteAt p 3) :
    exec (.readCells source p) s = .next (s.setZbi (repliedWith s.zbi .refusedFormat [])) := by
  refine h.refused ?_
  show viewCells n p s.taking = _
  unfold viewCells
  by_cases known : byteAt p 3 ≤ 4
  · obtain ⟨v, code, -⟩ := view_spelled known
    simp only [code]
    exact if_pos (by omega)
  · have unknown : View.ofCode (byteAt p 3) = none := by
      unfold View.ofCode
      split <;> first | omega | rfl
    simp only [unknown]

/-- A read in range: its cells one after another, cut short with DONE_CLAMPED (R172). -/
theorem readCells_read (row : byteAt p 0 ≤ 7) (start : byteAt p 1 ≤ 31) (some_ : 1 ≤ byteAt p 2) (most : byteAt p 2 ≤ 32) (known : byteAt p 3 ≤ 4) :
    let width := if byteAt p 3 = 0 then 4 else 2
    let shown := min (byteAt p 2) (min (32 - byteAt p 1) (if byteAt p 3 = 0 then 16 else 32))
    ∃ data, exec (.readCells source p) s = .next (s.setZbi (repliedWith s.zbi (if shown < byteAt p 2 then .doneClamped else .done) data)) ∧
      data.length = width * shown ∧
      ∀ c : Fin 256, (rowOf c).val = byteAt p 0 → byteAt p 1 ≤ (bayOf c).val → (bayOf c).val < byteAt p 1 + shown →
        (data.drop (width * ((bayOf c).val - byteAt p 1))).take width = shownCell s (byteAt p 3) c := by
  intro width shown
  obtain ⟨v, code, widthOf, limit, spelled⟩ := view_spelled known
  have len (i : Nat) : (cellBytes s v (Fin.ofNat 256 (byteAt p 0 * 32 + byteAt p 1 + i))).length = width :=
    (length_cellBytes _ _ _).trans widthOf
  obtain ⟨length, pieces⟩ := run_pieces len shown
  refine ⟨_, exec_readCells h ?_, length, fun c inRow from_ inside => ?_⟩
  · unfold viewCells
    simp only [code, limit]
    exact if_neg (by omega)
  · rw [pieces _ (by omega), ← spelled]
    refine congrArg (cellBytes s v) (Fin.ext ?_)
    have number : c.val = (rowOf c).val * 32 + (bayOf c).val := by simp only [rowOf, bayOf]; omega
    rw [Fin.val_ofNat]
    have := c.isLt
    omega

end

/-! ### Entries -/

theorem entryBytes_eq (e : Entry) : entryBytes e =
    [BitVec.ofNat 8 (e.slot.val * 16 + e.tag.val),
      BitVec.ofNat 8 (kindWeight e.kind + formWeight e.selector + bit e.hold.isNone 3 + e.priority.val)] ++
      halfBytes e.value ++ selectorShown e.selector ++ halfBytes (e.hold.getD 0) ++ halfBytes e.coverage := by
  rw [entryBytes, code_kind, code_form, selector_shown]
  rfl

/-- An absent cell shows absent levels, goal and daylight, and every flag clear. -/
theorem absent_shown {s : State} {c : Fin 256} (fitted : s.Fitted) (listed : s.Listed) (absent : s.ct.present c = false) :
    cellBytes s .levels c = [0xFF, 0xFF, 0xFF, 0xFF] ∧ cellBytes s .goals c = [0x03, 0xFF] ∧ cellBytes s .daylight c = [0xFF, 0xFF] ∧
      cellBytes s .flags c = [0x00, 0x00] ∧ cellBytes s .targets c = halfBytes (s.ct.cells.get c).target := by
  have base : (s.rlu.resolved.get c).winner = .base := by
    rw [listed.records, ← Listed.resolve_covering, List.filter_eq_nil_iff.mpr fun e _ => by simp [CellTable.covers_absent absent], Listed.resolve_nil]
    rfl
  refine ⟨?_, ?_, ?_, ?_, ?_⟩
  · rw [cellBytes, fitted.levels c absent, fitted.taken c absent]; rfl
  · rw [cellBytes, base, fitted.records c absent]; rfl
  · rw [cellBytes, fitted.records c absent]; rfl
  · simp [cellBytes, absent, flagsWord, halfBytes]
  · rw [cellBytes, targetShown, base]

/-- Settles O60. -/
theorem readsReportAndChangeNothing : Obligations.ReadsReportAndChangeNothing := by
  unfold Obligations.ReadsReportAndChangeNothing
  intro byte half flag
  refine ⟨fun s source n h => reads h rfl, fun s source p n c item asked => ?runs, fun s source p n h => ⟨readCells_refused h, ?cells⟩,
    fun s source start n h => ⟨fun out => ?outside, fun within => ?entries⟩, fun s c fitted listed absent => absent_shown fitted listed absent⟩
  case runs =>
    rcases asked with ⟨rfl, h, rfl⟩ | ⟨rfl, h, rfl⟩
    · refine ⟨viewRun_refused h rfl, fun first some_ most => ?_⟩
      obtain ⟨data, row, length, pieces⟩ := viewRun_read h rfl (fun i => rfl) (fun i => rfl) first some_ most
      refine ⟨data, row, length, fun i from_ inside => (pieces i from_ inside).trans ?_⟩
      rw [sectionBytes_eq]
      rfl
    · have run : ownerOf .readSensors = viewRun fun s i => sensorBytes (s.slu.sensors.get i) := rfl
      refine ⟨viewRun_refused h run, fun first some_ most => ?_⟩
      obtain ⟨data, row, length, pieces⟩ := viewRun_read h run (fun i => rfl) (fun i => rfl) first some_ most
      refine ⟨data, row, length, fun i from_ inside => (pieces i from_ inside).trans ?_⟩
      rw [sensorBytes_eq]
      rfl
  case cells =>
    intro row start some_ most known
    obtain ⟨data, answer, length, pieces⟩ := readCells_read h row start some_ most known
    refine ⟨data, answer, length, fun c inRow from_ inside => (pieces c inRow from_ inside).trans ?_⟩
    generalize byteAt p 3 = code at known
    match code, known with
    | 0, _ | 1, _ | 2, _ | 3, _ | 4, _ => rfl
  case outside =>
    exact h.refused (if_pos out)
  case entries =>
    have shown : entryBytes = fun e => _ := funext entryBytes_eq
    refine reads h ?_
    refine (if_neg (show ¬47 < byteAt [start] 0 from Nat.not_lt.mpr within)).trans ?_
    rw [shown]
    rfl

end Sys2Proof.Proofs.Reads
end
